-- ==== Sys2Proof/Word.lean ====
section
/-!
DEFINITION. The word types of the Arpenda 1608: the 16-bit word of the register window, of the ring and
of a report record (R189, R163, R145), and the 32-bit axis position that wraps (R1).
-/
namespace Sys2Proof

/-- One word of the register window, of the command ring or of a report record (chapter 11). -/
abbrev Word := BitVec 16

/-- One position of an axis: 32 bits, wrapping modulo 2^32 (chapter 1). -/
abbrev Pos := BitVec 32

/-- A byte field of a word (chapter 11, "Bits are numbered from 0"). -/
abbrev ByteField := BitVec 8

/-- A ring index, 0 to 1023, with index 1023 followed by index 0 (R163). -/
abbrev RingIndex := BitVec 10

end Sys2Proof
end

