-- ==== Sys2Proof/Config.lean ====
section
/-!
DEFINITION. The sizes and limits that the manual fixes for every Arpenda 1608. The manual leaves no value
to the implementation, so no constant here is free (INVENTORY.md, "What the manual leaves open").
-/
namespace Sys2Proof.Config

/-- The report queue holds at most 64 records (R147, R148). -/
def queueCapacity : Nat := 64

/-- A ROUTINE record is admitted only while fewer than 60 records are held (R148). -/
def routineLimit : Nat := 60

/-- Saturating counts of the report queue and of an item stop at 255 (R149, R63). -/
def byteLimit : Nat := 255

/-- The largest debt of a FORWARD_ONLY axis (R10, R11). -/
def debtLimit : Nat := 65535

/-- The schedule's entry records, numbered 0 to 255 (R18). -/
def entryCount : Nat := 256

/-- Half the number circle: a distance behind below it means "reached" (R1). -/
def halfCircle : Nat := 2147483648

/-- SCHEDULE_FIRE accepts distances below this one, ahead and behind (R39). -/
def fireWindow : Nat := 16777216

/-- The ring's words and its index circle (R163). -/
def ringWords : Nat := 1024

/-- The largest on-duration that FIRE_DONE carries (R126). -/
def maxDuration : Nat := 65535

end Sys2Proof.Config
end

