-- ==== Sys2Proof/Syntax.lean ====
section
/-!
DEFINITION. The vocabulary of the Arpenda 1608 and its two syntaxes: the eighteen packets that the host
places in the command ring (chapters 9 and 11), and `Instr`, one constructor for each row of
spec/opcode_table.json. The part has no program: a row is one whole step of the part (chapter 95), either
an event on its pins, an access to its register window, or an event of one of its blocks.
-/
namespace Sys2Proof

/-! ### Fixed sets of names (11.3.1) -/

/-- The three axes (chapter 1). -/
inductive Axis where
  | t | e1 | e2
  deriving DecidableEq, Repr

/-- The two encoder axes (chapter 1). -/
inductive Enc where
  | e1 | e2
  deriving DecidableEq, Repr

/-- The axis an encoder drives. -/
def Enc.axis : Enc → Axis
  | .e1 => .e1
  | .e2 => .e2

/-- The state of an encoder axis (R7). -/
inductive AxisMode where
  | halted | counting
  deriving DecidableEq, Repr

/-- The direction policy (R9, R10). -/
inductive Policy where
  | bidirectional | forwardOnly
  deriving DecidableEq, Repr

/-- The levels of an encoder's A and B inputs (R6). -/
structure Phases where
  a : Bool
  b : Bool
  deriving DecidableEq, Repr

/-- The four settings of CONFIG_AXIS (R14). The divider D is 1 to 16. -/
structure AxisSettings where
  mode : AxisMode
  divider : Nat
  policy : Policy
  invert : Bool
  deriving DecidableEq, Repr

/-- A detector's selected edge (R90). -/
inductive Edge where
  | rising | falling
  deriving DecidableEq, Repr

/-- The five configuration fields of a detector (R90). -/
structure DetectorConfig where
  edge : Edge
  qual : ByteField
  recipe : Fin 16
  lockAxis : Axis
  lockDist : Word
  deriving DecidableEq, Repr

/-- A line's collision policy (R106, R113). -/
inductive CollisionPolicy where
  | extend | reject | defer
  deriving DecidableEq, Repr

/-- The line's own configuration fields (R106). -/
structure LineConfig where
  policy : CollisionPolicy
  minOff : Word
  maxOn : Word
  reports : Bool
  deriving DecidableEq, Repr

/-- What a line fault does to the line (R131). -/
inductive MonitorAction where
  | report | shutdown
  deriving DecidableEq, Repr

/-- The monitor's threshold K: 1, 2, 4 or 8 and nothing else (R131, R132). -/
inductive Threshold where
  | k1 | k2 | k4 | k8
  deriving DecidableEq, Repr

/-- The number a threshold stands for (R131). -/
def Threshold.toNat : Threshold → Nat
  | .k1 => 1
  | .k2 => 2
  | .k4 => 4
  | .k8 => 8

/-- The monitor fields of a line's configuration (R131). -/
structure MonitorConfig where
  enable : Bool
  settle : ByteField
  interval : Word
  threshold : Threshold
  action : MonitorAction
  deriving DecidableEq, Repr

/-- The unit of a pulse width (R19, R106). -/
inductive WidthUnit where
  | time | distance
  deriving DecidableEq, Repr

/-- What a recipe step does (R77). -/
inductive StepAction where
  | pulse | deadline
  deriving DecidableEq, Repr

/-- When a PULSE fires, against the item's verdict (R77). -/
inductive Condition where
  | always | ifAccept | ifReject
  deriving DecidableEq, Repr

/-- A settled verdict (R57). -/
inductive Verdict where
  | accept | reject
  deriving DecidableEq, Repr

/-- A recipe header (R76). The first step is 0 to 127; a step count of 0 makes the recipe undefined. -/
structure RecipeHeader where
  axis : Axis
  first : Fin 128
  count : Nat
  dflt : Verdict
  deriving DecidableEq, Repr

/-- The fields of a step (R77), without its written flag. -/
structure Step where
  delay : BitVec 24
  action : StepAction
  line : Fin 16
  width : Word
  unit : WidthUnit
  cond : Condition
  repeats : ByteField
  spacing : Word
  deriving DecidableEq, Repr

/-- An item's handle: the generation in the high byte, the slot in the low byte, the slot in 0 to 63 (R47). -/
structure Handle where
  gen : ByteField
  slot : Fin 64
  deriving DecidableEq, Repr

/-- The actions of DETECTOR_CONTROL (R100). -/
inductive DetectorAction where
  | enable | disable
  deriving DecidableEq, Repr

/-- The actions of LINE_CONTROL (R108). -/
inductive LineAction where
  | arm | disarm | clearFault | forceOff
  deriving DecidableEq, Repr

/-- The conditions of a FENCE (R182). -/
inductive FenceCond where
  | axisReached | itemsEmpty | scheduleEmpty | linesIdle
  deriving DecidableEq, Repr

/-- The axis field of a FENCE (R182). -/
inductive FenceAxis where
  | one (ax : Axis)
  | all
  deriving DecidableEq, Repr

/-- The fields of a FENCE packet (R182). -/
structure FenceFields where
  cond : FenceCond
  axis : FenceAxis
  position : Pos
  mask : Word
  timeout : Word
  deriving DecidableEq, Repr

/-- The fields of a SCHEDULE_FIRE packet (R38). -/
structure FireFields where
  axis : Axis
  line : Fin 16
  due : Pos
  width : Word
  unit : WidthUnit
  repeats : ByteField
  spacing : Word
  tag : Word
  deriving DecidableEq, Repr

/-! ### Packets -/

/-- The eighteen packet kinds (R169, 11.3). -/
inductive PacketKind where
  | pad | mark | fence | configAxis | presetAxis | configDetector | detectorControl | configLine
  | lineControl | writeRecipe | writeSteps | copyBank | switchBank | injectItem | verdict | cancelItem
  | scheduleFire | cancelTag
  deriving DecidableEq, Repr

/-- The halt codes (R170). -/
inductive HaltCode where
  | none | unknownKind | badLength | straddle | badField
  deriving DecidableEq, Repr

/-- A packet with every field decoded to the value the tables of 11.3 give (R207). -/
inductive Packet where
  | pad (length : Nat)
  | mark (tag : Word)
  | fence (f : FenceFields)
  | configAxis (enc : Enc) (cfg : AxisSettings)
  | presetAxis (enc : Enc) (position : Pos)
  | configDetector (det : Fin 8) (cfg : DetectorConfig)
  | detectorControl (mask : ByteField) (action : DetectorAction)
  | configLine (line : Fin 16) (cfg : LineConfig) (mon : MonitorConfig)
  | lineControl (mask : Word) (action : LineAction)
  | writeRecipe (recipe : Fin 16) (header : RecipeHeader)
  | writeSteps (first : Fin 128) (steps : List Step)
  | copyBank
  | switchBank
  | injectItem (recipe : Fin 16) (backdate : Word) (tag : Word)
  | verdict (handle : Handle) (verdict : Verdict) (tag : Word)
  | cancelItem (handle : Handle)
  | scheduleFire (f : FireFields)
  | cancelTag (tag : Word)
  deriving DecidableEq, Repr

/-- The kind of a packet. -/
def Packet.kind : Packet → PacketKind
  | .pad _ => .pad
  | .mark _ => .mark
  | .fence _ => .fence
  | .configAxis _ _ => .configAxis
  | .presetAxis _ _ => .presetAxis
  | .configDetector _ _ => .configDetector
  | .detectorControl _ _ => .detectorControl
  | .configLine _ _ _ => .configLine
  | .lineControl _ _ => .lineControl
  | .writeRecipe _ _ => .writeRecipe
  | .writeSteps _ _ => .writeSteps
  | .copyBank => .copyBank
  | .switchBank => .switchBank
  | .injectItem _ _ _ => .injectItem
  | .verdict _ _ _ => .verdict
  | .cancelItem _ => .cancelItem
  | .scheduleFire _ => .scheduleFire
  | .cancelTag _ => .cancelTag

/-! ### The steps of the part -/

/-- One constructor for each row of spec/opcode_table.json. An event that comes from the pins carries the
levels it brings; a bus write carries the word on D0–D15; an event of one of several like blocks carries the
block's number. The rows of packet kinds carry nothing: their fields stand in the ring at the read index,
where the parser reads them (R173). -/
inductive Instr where
  /-- RESET_N low and its release, with the levels the inputs hold at release (R205, R17, R104). -/
  | hardwareReset (e1 : Phases) (e2 : Phases) (di : ByteField) (fb : Word)
  /-- One tick of T (R3), with the levels on FB0–FB15 as they stand at it (R134). -/
  | tick (fb : Word)
  /-- A change of an encoder's phase inputs to the pair `ph` (R6). -/
  | quadTransition (enc : Enc) (ph : Phases)
  /-- The release pass of the list of axis `ax` for the advance announced to it (R24). -/
  | scheduleReleasePass (ax : Axis)
  /-- A change of DIn to `level` (R91). -/
  | detectorEdge (det : Fin 8) (level : Bool)
  /-- The completion of a detector's qualification (R94). -/
  | qualificationComplete (det : Fin 8)
  /-- The end of a detector's lockout (R97). -/
  | lockoutEnd (det : Fin 8)
  /-- The normal end of a line's pulse (R118). -/
  | pulseEnd (line : Fin 16)
  /-- The max-on guard of a line (R120). -/
  | maxOnExpiry (line : Fin 16)
  /-- The end of a line's recovery (R122). -/
  | recoveryEnd (line : Fin 16)
  /-- A monitor sample of a line (R134). -/
  | monitorSample (line : Fin 16)
  /-- A notice to the FENCED parser (R183). -/
  | fenceNotice
  /-- The expiry of the FENCED parser's timeout (R185). -/
  | fenceTimeout
  /-- The parser takes the word at read as a header (R171). -/
  | parserTakeHeader
  | pad
  | mark
  | fence
  | configAxis
  | presetAxis
  | configDetector
  /-- DETECTOR_CONTROL with action ENABLE (R100). -/
  | enable
  /-- DETECTOR_CONTROL with action DISABLE (R101). -/
  | disable
  | configLine
  /-- LINE_CONTROL with action ARM (R109). -/
  | arm
  /-- LINE_CONTROL with action DISARM (R110). -/
  | disarm
  /-- LINE_CONTROL with action CLEAR_FAULT (R111). -/
  | clearFault
  /-- LINE_CONTROL with action FORCE_OFF (R112). -/
  | forceOff
  | writeRecipe
  | writeSteps
  | copyBank
  | switchBank
  | injectItem
  | verdict
  | cancelItem
  | scheduleFire
  | cancelTag
  | startParser
  | stopParser
  | ringReset
  | quiesce
  | resume
  | engineReset
  | ringData (w : Word)
  | ringPublish (w : Word)
  | ringWithdraw (w : Word)
  /-- A write to RING_READ (R168). -/
  | resync (w : Word)
  | reportPop (w : Word)
  | irqStatusWrite (w : Word)
  | irqEnableWrite (w : Word)
  | reportWatermarkWrite (w : Word)
  | ringSpaceLevelWrite (w : Word)
  | posSelectWrite (w : Word)
  | lineSelectWrite (w : Word)
  | posLowRead
  /-- A bus write at offset `offset` that the window ignores (R189, R197). -/
  | registerWriteIgnored (offset : BitVec 5) (w : Word)
  deriving DecidableEq, Repr

end Sys2Proof
end

