-- ==== Sys2Proof/WellFormed.lean ====
section
/-!
DEFINITION. Which terms of the two syntaxes are well formed: the ranges and the rules between fields that the
types do not already carry. For packets these are the field ranges of 11.3.2 and 11.3.3 and the four rules of
R207; for a step of the part, the one check that a write given as ignored is a write the window ignores in
every state (R189, R159, R191, R194, R168, R197).
-/
namespace Sys2Proof

/-- The settings of CONFIG_AXIS: D lies in 1 to 16 (11.3.2). -/
def AxisSettings.wf (c : AxisSettings) : Bool :=
  decide (1 ≤ c.divider) && decide (c.divider ≤ 16)

/-- A header that WRITE_RECIPE can carry (R78). -/
def RecipeHeader.wf (h : RecipeHeader) : Bool :=
  decide (h.count ≤ 16) && decide (h.first.val + h.count ≤ 128)

/-- A step that WRITE_STEPS can carry (R77, 11.3.3). -/
def Step.wf (st : Step) : Bool :=
  (st.width != 0) && (st.spacing != 0) &&
    (match st.action with
     | .pulse => true
     | .deadline => decide (st.cond = .always) && (st.repeats == 0))

/-- A packet the parser's field checks accept (R207). -/
def Packet.wf : Packet → Bool
  | .pad n => decide (n ≤ 255)
  | .fence f => !(decide (f.cond = .axisReached) && decide (f.axis = .all))
  | .configAxis _ c => c.wf
  | .writeRecipe _ h => h.wf
  | .writeSteps first steps =>
    decide (1 ≤ steps.length) && decide (steps.length ≤ 10) &&
      decide (first.val + steps.length ≤ 128) && steps.all Step.wf
  | .scheduleFire f => (f.width != 0) && (f.spacing != 0)
  | .mark _ => true
  | .presetAxis _ _ => true
  | .configDetector _ _ => true
  | .detectorControl _ _ => true
  | .configLine _ _ _ => true
  | .lineControl _ _ => true
  | .copyBank => true
  | .switchBank => true
  | .injectItem _ _ _ => true
  | .verdict _ _ _ => true
  | .cancelItem _ => true
  | .cancelTag _ => true

/-- The registers of access R, by offset (11.1): a write to one of them is ignored (R189). -/
def readOnlyOffset (o : Nat) : Bool :=
  o == 0x01 || o == 0x06 || o == 0x07 || o == 0x0B ||
    (decide (0x0E ≤ o) && decide (o ≤ 0x15)) ||
    o == 0x17 || o == 0x18 || o == 0x19 || o == 0x1A || (decide (0x1C ≤ o) && decide (o ≤ 0x1F))

/-- The writes that the window ignores whatever the state: a write to a register of access R, a CMD value
that is no code, an IRQ_STATUS value without the RING_OVERRUN bit, and a value outside the range of a register
of access R/W (R189, R197, R156, R157, R159, R168, R191, R194). -/
def writeIgnored (offset : BitVec 5) (w : Word) : Bool :=
  let o := offset.toNat
  readOnlyOffset o ||
    (o == 0x00 && (w.toNat == 0 || decide (6 < w.toNat))) ||
    (o == 0x05 && decide (1024 ≤ w.toNat)) ||
    (o == 0x08 && decide (1024 ≤ w.toNat)) ||
    (o == 0x09 && !w.getLsbD 6) ||
    (o == 0x0C && (w.toNat == 0 || decide (64 < w.toNat))) ||
    (o == 0x16 && decide (3 ≤ w.toNat)) ||
    (o == 0x1B && decide (16 ≤ w.toNat))

/-- A well-formed step of the part. The operands' types carry every range; only a write given as ignored has
a further check. -/
def Instr.wf : Instr → Bool
  | .registerWriteIgnored offset w => writeIgnored offset w
  | .hardwareReset _ _ _ _ => true
  | .tick _ => true
  | .quadTransition _ _ => true
  | .scheduleReleasePass _ => true
  | .detectorEdge _ _ => true
  | .qualificationComplete _ => true
  | .lockoutEnd _ => true
  | .pulseEnd _ => true
  | .maxOnExpiry _ => true
  | .recoveryEnd _ => true
  | .monitorSample _ => true
  | .fenceNotice => true
  | .fenceTimeout => true
  | .parserTakeHeader => true
  | .pad => true
  | .mark => true
  | .fence => true
  | .configAxis => true
  | .presetAxis => true
  | .configDetector => true
  | .enable => true
  | .disable => true
  | .configLine => true
  | .arm => true
  | .disarm => true
  | .clearFault => true
  | .forceOff => true
  | .writeRecipe => true
  | .writeSteps => true
  | .copyBank => true
  | .switchBank => true
  | .injectItem => true
  | .verdict => true
  | .cancelItem => true
  | .scheduleFire => true
  | .cancelTag => true
  | .startParser => true
  | .stopParser => true
  | .ringReset => true
  | .quiesce => true
  | .resume => true
  | .engineReset => true
  | .ringData _ => true
  | .ringPublish _ => true
  | .ringWithdraw _ => true
  | .resync _ => true
  | .reportPop _ => true
  | .irqStatusWrite _ => true
  | .irqEnableWrite _ => true
  | .reportWatermarkWrite _ => true
  | .ringSpaceLevelWrite _ => true
  | .posSelectWrite _ => true
  | .lineSelectWrite _ => true
  | .posLowRead => true

end Sys2Proof
end

