-- ==== Sys2Proof/Decode.lean ====
section
/-!
DEFINITION. Decoding. `decodeTableWord` reads a command from the bits spec/opcode_table.json gives its rows;
the table gives none. The part's own decoder is the packet parser's: `decodeHeader` makes the header checks of
R171 and R206, `decodeBody` decodes a complete packet's body and makes the field checks of R207. Both are total
and reject by the halt code the rule names. After them stands the encoder of 11.3, which writes the ring words
of a packet.
-/
namespace Sys2Proof

/-- The command a word spells by the opcode table's bits. No row of the table has bits, so no word spells one:
the commands of this part are events, and their operands come with the event. -/
def decodeTableWord (_nbits _w : Nat) : Option Instr := none

/-! ### Codes of 11.3.1, decoded from the number in the field -/

/-- A number of a range `0` to `n - 1`. -/
def decodeFin (n k : Nat) : Option (Fin n) :=
  if h : k < n then some ⟨k, h⟩ else none

/-- The axis codes (11.3.1). -/
def decodeAxis : Nat → Option Axis
  | 0 => some .t
  | 1 => some .e1
  | 2 => some .e2
  | _ => none

/-- The axis field of CONFIG_AXIS and PRESET_AXIS: T is out of range (R3, 11.3.1). -/
def decodeEnc : Nat → Option Enc
  | 1 => some .e1
  | 2 => some .e2
  | _ => none

/-- The axis field of FENCE: code 3 is ALL (11.3.1). -/
def decodeFenceAxis : Nat → Option FenceAxis
  | 0 => some (.one .t)
  | 1 => some (.one .e1)
  | 2 => some (.one .e2)
  | 3 => some .all
  | _ => none

/-- Enable of CONFIG_AXIS (11.3.1). -/
def decodeMode : Nat → Option AxisMode
  | 0 => some .halted
  | 1 => some .counting
  | _ => none

/-- Direction policy (11.3.1). -/
def decodePolicy : Nat → Option Policy
  | 0 => some .bidirectional
  | 1 => some .forwardOnly
  | _ => none

/-- On and off settings, and invert (11.3.1). -/
def decodeFlag : Nat → Option Bool
  | 0 => some false
  | 1 => some true
  | _ => none

/-- Edge (11.3.1). -/
def decodeEdge : Nat → Option Edge
  | 0 => some .rising
  | 1 => some .falling
  | _ => none

/-- Collision policy (11.3.1). -/
def decodeCollision : Nat → Option CollisionPolicy
  | 0 => some .extend
  | 1 => some .reject
  | 2 => some .defer
  | _ => none

/-- Monitor action (11.3.1). -/
def decodeMonitorAction : Nat → Option MonitorAction
  | 0 => some .report
  | 1 => some .shutdown
  | _ => none

/-- Threshold K: 1, 2, 4 or 8 (R132). -/
def decodeThreshold : Nat → Option Threshold
  | 1 => some .k1
  | 2 => some .k2
  | 4 => some .k4
  | 8 => some .k8
  | _ => none

/-- Width unit (11.3.1). -/
def decodeUnit : Nat → Option WidthUnit
  | 0 => some .time
  | 1 => some .distance
  | _ => none

/-- Step action (11.3.1). -/
def decodeStepAction : Nat → Option StepAction
  | 0 => some .pulse
  | 1 => some .deadline
  | _ => none

/-- Condition (11.3.1). -/
def decodeCondition : Nat → Option Condition
  | 0 => some .always
  | 1 => some .ifAccept
  | 2 => some .ifReject
  | _ => none

/-- Verdict (11.3.1). -/
def decodeVerdict : Nat → Option Verdict
  | 1 => some .accept
  | 2 => some .reject
  | _ => none

/-- Detector action (11.3.1). -/
def decodeDetectorAction : Nat → Option DetectorAction
  | 1 => some .enable
  | 2 => some .disable
  | _ => none

/-- Line action (11.3.1). -/
def decodeLineAction : Nat → Option LineAction
  | 1 => some .arm
  | 2 => some .disarm
  | 3 => some .clearFault
  | 4 => some .forceOff
  | _ => none

/-- Fence condition (11.3.1). -/
def decodeFenceCond : Nat → Option FenceCond
  | 0 => some .axisReached
  | 1 => some .itemsEmpty
  | 2 => some .scheduleEmpty
  | 3 => some .linesIdle
  | _ => none

/-- The kind codes of 11.3; 0 and 19 to 255 name no kind (R206). -/
def decodeKind : Nat → Option PacketKind
  | 1 => some .pad
  | 2 => some .mark
  | 3 => some .fence
  | 4 => some .configAxis
  | 5 => some .presetAxis
  | 6 => some .configDetector
  | 7 => some .detectorControl
  | 8 => some .configLine
  | 9 => some .lineControl
  | 10 => some .writeRecipe
  | 11 => some .writeSteps
  | 12 => some .copyBank
  | 13 => some .switchBank
  | 14 => some .injectItem
  | 15 => some .verdict
  | 16 => some .cancelItem
  | 17 => some .scheduleFire
  | 18 => some .cancelTag
  | _ => none

/-! ### The same codes, encoded -/

/-- The axis codes (11.3.1). -/
def Axis.code : Axis → Nat
  | .t => 0
  | .e1 => 1
  | .e2 => 2

/-- The axis codes of the encoder axes (11.3.1). -/
def Enc.code (e : Enc) : Nat := e.axis.code

/-- The axis field of FENCE (11.3.1). -/
def FenceAxis.code : FenceAxis → Nat
  | .one ax => ax.code
  | .all => 3

/-- Enable (11.3.1). -/
def AxisMode.code : AxisMode → Nat
  | .halted => 0
  | .counting => 1

/-- Direction policy (11.3.1). -/
def Policy.code : Policy → Nat
  | .bidirectional => 0
  | .forwardOnly => 1

/-- On and off settings, and every one-bit flag of a record (11.3.1, 11.4.2). -/
def flagCode (b : Bool) : Nat := if b then 1 else 0

/-- Edge (11.3.1). -/
def Edge.code : Edge → Nat
  | .rising => 0
  | .falling => 1

/-- Collision policy (11.3.1). -/
def CollisionPolicy.code : CollisionPolicy → Nat
  | .extend => 0
  | .reject => 1
  | .defer => 2

/-- Monitor action (11.3.1, 11.4.2). -/
def MonitorAction.code : MonitorAction → Nat
  | .report => 0
  | .shutdown => 1

/-- Width unit (11.3.1). -/
def WidthUnit.code : WidthUnit → Nat
  | .time => 0
  | .distance => 1

/-- Step action (11.3.1). -/
def StepAction.code : StepAction → Nat
  | .pulse => 0
  | .deadline => 1

/-- Condition (11.3.1). -/
def Condition.code : Condition → Nat
  | .always => 0
  | .ifAccept => 1
  | .ifReject => 2

/-- Verdict (11.3.1, 11.4.2). -/
def Verdict.code : Verdict → Nat
  | .accept => 1
  | .reject => 2

/-- Detector action (11.3.1). -/
def DetectorAction.code : DetectorAction → Nat
  | .enable => 1
  | .disable => 2

/-- Line action (11.3.1). -/
def LineAction.code : LineAction → Nat
  | .arm => 1
  | .disarm => 2
  | .clearFault => 3
  | .forceOff => 4

/-- Fence condition (11.3.1). -/
def FenceCond.code : FenceCond → Nat
  | .axisReached => 0
  | .itemsEmpty => 1
  | .scheduleEmpty => 2
  | .linesIdle => 3

/-- The kind codes of 11.3. -/
def PacketKind.code : PacketKind → Nat
  | .pad => 1
  | .mark => 2
  | .fence => 3
  | .configAxis => 4
  | .presetAxis => 5
  | .configDetector => 6
  | .detectorControl => 7
  | .configLine => 8
  | .lineControl => 9
  | .writeRecipe => 10
  | .writeSteps => 11
  | .copyBank => 12
  | .switchBank => 13
  | .injectItem => 14
  | .verdict => 15
  | .cancelItem => 16
  | .scheduleFire => 17
  | .cancelTag => 18

/-- The halt codes of PARSER_DIAG (11.2). -/
def HaltCode.code : HaltCode → Nat
  | .none => 0
  | .unknownKind => 1
  | .badLength => 2
  | .straddle => 3
  | .badField => 4

/-! ### Fields of words -/

/-- The low byte of a word. -/
def loByte (w : Word) : ByteField := w.extractLsb' 0 8

/-- The high byte of a word. -/
def hiByte (w : Word) : ByteField := w.extractLsb' 8 8

/-- A word from its high and low bytes. -/
def word (hi lo : ByteField) : Word := hi ++ lo

/-- A word from two small numbers, one in each byte field. -/
def wordOf (hi lo : Nat) : Word := word (BitVec.ofNat 8 hi) (BitVec.ofNat 8 lo)

/-- A 32-bit position from two words, the low half first (chapter 11). -/
def positionOf (low high : Word) : Pos := high ++ low

/-- The low half of a position. -/
def lowHalf (p : Pos) : Word := p.extractLsb' 0 16

/-- The high half of a position. -/
def highHalf (p : Pos) : Word := p.extractLsb' 16 16

/-- The handle field: generation byte and slot byte, the slot byte in 0 to 63 (R47). -/
def decodeHandle (w : Word) : Option Handle :=
  (decodeFin 64 (loByte w).toNat).map fun slot => { gen := hiByte w, slot := slot }

/-- The 16-bit value of a handle: the generation times 256 plus the slot number (R47). -/
def Handle.word (h : Handle) : Word := h.gen ++ BitVec.ofNat 8 h.slot.val

/-! ### The header (R206, R171) -/

/-- The lengths each kind allows (R169, 11.3). -/
def lengthAllowed : PacketKind → Nat → Bool
  | .pad, _ => true
  | .mark, n => n == 1
  | .fence, n => n == 5
  | .configAxis, n => n == 3
  | .presetAxis, n => n == 3
  | .configDetector, n => n == 4
  | .detectorControl, n => n == 1
  | .configLine, n => n == 7
  | .lineControl, n => n == 2
  | .writeRecipe, n => n == 3
  | .writeSteps, n => decide (7 ≤ n) && decide (n ≤ 61) && (n % 6 == 1)
  | .copyBank, n => n == 0
  | .switchBank, n => n == 0
  | .injectItem, n => n == 3
  | .verdict, n => n == 3
  | .cancelItem, n => n == 1
  | .scheduleFire, n => n == 7
  | .cancelTag, n => n == 1

/-- The header's kind and length bytes, with no check (11.3). -/
def headerLength (w : Word) : Nat := (loByte w).toNat

/-- The header checks of R171 in their order, on the header word that stands at ring index `at_`:
the kind and length, or the halt code of the first check that fails. -/
def decodeHeader (w : Word) (at_ : RingIndex) : Except HaltCode (PacketKind × Nat) :=
  match decodeKind (hiByte w).toNat with
  | none => .error .unknownKind
  | some k =>
    if lengthAllowed k (headerLength w) then
      if at_.toNat + 1 + headerLength w ≤ Config.ringWords then .ok (k, headerLength w)
      else .error .straddle
    else .error .badLength

/-- The kind and length of a header that has passed its checks (R172). -/
def headerOf (w : Word) : Option (PacketKind × Nat) :=
  (decodeKind (hiByte w).toNat).map fun k => (k, headerLength w)

/-! ### The body (R207, 11.3.2, 11.3.3) -/

/-- A step of six words (11.3.3), refused when a field is out of range or a DEADLINE carries a condition or
repeats (R79). -/
def decodeStep : List Word → Option Step
  | [w0, w1, w2, w3, w4, w5] => do
    let line ← decodeFin 16 (hiByte w1).toNat
    let action ← decodeStepAction (loByte w3).toNat
    let unit ← decodeUnit (hiByte w3).toNat
    let cond ← decodeCondition (loByte w4).toNat
    let st : Step :=
      { delay := loByte w1 ++ w0
        action := action
        line := line
        width := w2
        unit := unit
        cond := cond
        repeats := hiByte w4
        spacing := w5 }
    if st.wf then some st else none
  | _ => none

/-- The steps of a WRITE_STEPS body, six words each; `n` bounds how many are read. -/
def decodeSteps : Nat → List Word → Option (List Step)
  | _, [] => some []
  | 0, _ :: _ => none
  | n + 1, ws => do
    let st ← decodeStep (ws.take 6)
    let rest ← decodeSteps n (ws.drop 6)
    some (st :: rest)

/-- The fields of a complete packet's body, before the rules between fields. -/
def decodeFields (kind : PacketKind) (body : List Word) : Option Packet :=
  match kind, body with
  | .pad, ws => some (.pad ws.length)
  | .mark, [tag] => some (.mark tag)
  | .fence, [w1, w2, w3, w4, w5] => do
    let cond ← decodeFenceCond (loByte w1).toNat
    let axis ← decodeFenceAxis (hiByte w1).toNat
    some (.fence
      { cond := cond, axis := axis, position := positionOf w2 w3, mask := w4, timeout := w5 })
  | .configAxis, [w1, w2, w3] => do
    let enc ← decodeEnc (loByte w1).toNat
    let mode ← decodeMode (loByte w2).toNat
    let policy ← decodePolicy (hiByte w2).toNat
    let invert ← decodeFlag w3.toNat
    some (.configAxis enc
      { mode := mode, divider := (hiByte w1).toNat, policy := policy, invert := invert })
  | .presetAxis, [w1, w2, w3] => do
    let enc ← decodeEnc w1.toNat
    some (.presetAxis enc (positionOf w2 w3))
  | .configDetector, [w1, w2, w3, w4] => do
    let det ← decodeFin 8 (loByte w1).toNat
    let edge ← decodeEdge (hiByte w1).toNat
    let recipe ← decodeFin 16 (hiByte w2).toNat
    let lockAxis ← decodeAxis w3.toNat
    some (.configDetector det
      { edge := edge, qual := loByte w2, recipe := recipe, lockAxis := lockAxis, lockDist := w4 })
  | .detectorControl, [w1] => do
    let action ← decodeDetectorAction (hiByte w1).toNat
    some (.detectorControl (loByte w1) action)
  | .configLine, [w1, w2, w3, w4, w5, w6, w7] => do
    let line ← decodeFin 16 (loByte w1).toNat
    let policy ← decodeCollision (hiByte w1).toNat
    let reports ← decodeFlag (loByte w4).toNat
    let action ← decodeMonitorAction (hiByte w4).toNat
    let enable ← decodeFlag (loByte w5).toNat
    let threshold ← decodeThreshold (hiByte w5).toNat
    let settle ← decodeFin 256 w6.toNat
    some (.configLine line
      { policy := policy, minOff := w2, maxOn := w3, reports := reports }
      { enable := enable, settle := BitVec.ofFin settle, interval := w7, threshold := threshold,
        action := action })
  | .lineControl, [w1, w2] => do
    let action ← decodeLineAction w2.toNat
    some (.lineControl w1 action)
  | .writeRecipe, [w1, w2, w3] => do
    let recipe ← decodeFin 16 (loByte w1).toNat
    let axis ← decodeAxis (hiByte w1).toNat
    let first ← decodeFin 128 (loByte w2).toNat
    let dflt ← decodeVerdict w3.toNat
    some (.writeRecipe recipe
      { axis := axis, first := first, count := (hiByte w2).toNat, dflt := dflt })
  | .writeSteps, w1 :: ws => do
    let first ← decodeFin 128 w1.toNat
    let steps ← decodeSteps 10 ws
    some (.writeSteps first steps)
  | .copyBank, [] => some .copyBank
  | .switchBank, [] => some .switchBank
  | .injectItem, [w1, w2, w3] => do
    let recipe ← decodeFin 16 w1.toNat
    some (.injectItem recipe w2 w3)
  | .verdict, [w1, w2, w3] => do
    let h ← decodeHandle w1
    let v ← decodeVerdict w2.toNat
    some (.verdict h v w3)
  | .cancelItem, [w1] => do
    let h ← decodeHandle w1
    some (.cancelItem h)
  | .scheduleFire, [w1, w2, w3, w4, w5, w6, w7] => do
    let axis ← decodeAxis (loByte w1).toNat
    let line ← decodeFin 16 (hiByte w1).toNat
    let unit ← decodeUnit (loByte w5).toNat
    some (.scheduleFire
      { axis := axis, line := line, due := positionOf w2 w3, width := w4, unit := unit,
        repeats := hiByte w5, spacing := w6, tag := w7 })
  | .cancelTag, [tag] => some (.cancelTag tag)
  | _, _ => none

/-- A complete packet decoded, with the field checks of R173 and R207: `none` is BAD_FIELD. -/
def decodeBody (kind : PacketKind) (body : List Word) : Option Packet :=
  match decodeFields kind body with
  | some p => if p.wf then some p else none
  | none => none

/-! ### The encoder (11.3) -/

/-- The six words of a step (11.3.3). -/
def Step.words (st : Step) : List Word :=
  [st.delay.extractLsb' 0 16,
   word (BitVec.ofNat 8 st.line.val) (st.delay.extractLsb' 16 8),
   st.width,
   wordOf st.unit.code st.action.code,
   word st.repeats (BitVec.ofNat 8 st.cond.code),
   st.spacing]

/-- The body words of a packet (11.3.2). -/
def Packet.body : Packet → List Word
  | .pad n => List.replicate n 0
  | .mark tag => [tag]
  | .fence f =>
    [wordOf f.axis.code f.cond.code, lowHalf f.position, highHalf f.position, f.mask, f.timeout]
  | .configAxis enc c =>
    [wordOf c.divider enc.code, wordOf c.policy.code c.mode.code,
     BitVec.ofNat 16 (flagCode c.invert)]
  | .presetAxis enc p => [BitVec.ofNat 16 enc.code, lowHalf p, highHalf p]
  | .configDetector det c =>
    [wordOf c.edge.code det.val, word (BitVec.ofNat 8 c.recipe.val) c.qual,
     BitVec.ofNat 16 c.lockAxis.code, c.lockDist]
  | .detectorControl mask a => [word (BitVec.ofNat 8 a.code) mask]
  | .configLine line c m =>
    [wordOf c.policy.code line.val, c.minOff, c.maxOn, wordOf m.action.code (flagCode c.reports),
     wordOf m.threshold.toNat (flagCode m.enable), m.settle.setWidth 16, m.interval]
  | .lineControl mask a => [mask, BitVec.ofNat 16 a.code]
  | .writeRecipe r h =>
    [wordOf h.axis.code r.val, wordOf h.count h.first.val, BitVec.ofNat 16 h.dflt.code]
  | .writeSteps first steps => BitVec.ofNat 16 first.val :: (steps.map Step.words).flatten
  | .copyBank => []
  | .switchBank => []
  | .injectItem r backdate tag => [BitVec.ofNat 16 r.val, backdate, tag]
  | .verdict h v tag => [h.word, BitVec.ofNat 16 v.code, tag]
  | .cancelItem h => [h.word]
  | .scheduleFire f =>
    [wordOf f.line.val f.axis.code, lowHalf f.due, highHalf f.due, f.width,
     word f.repeats (BitVec.ofNat 8 f.unit.code), f.spacing, f.tag]
  | .cancelTag tag => [tag]

/-- The header word of a packet: the kind code times 256 plus the length (11.3). -/
def Packet.header (p : Packet) : Word := wordOf p.kind.code p.body.length

/-- The ring words of a packet: its header and its body (R169). -/
def Packet.words (p : Packet) : List Word := p.header :: p.body

end Sys2Proof
end

