-- ==== Sys2Proof/Machine/State.lean ====
section
/-!
DEFINITION. The state of the Arpenda 1608 as plain data, block by block, with the values hardware reset leaves
(R17, R45, R74, R89, R104, R130, R144, R162, R188, R205), and the closed types of faults and refusals.
-/
namespace Sys2Proof.Machine

/-! ### Axis Unit (chapter 1, R16) -/

/-- One encoder axis. -/
structure EncAxis where
  /-- The 32-bit position. -/
  pos : Pos
  /-- State, divider, direction policy and invert setting (R14). -/
  cfg : AxisSettings
  /-- The signed residue, between -(D - 1) and D - 1 (R8). -/
  residue : Int
  /-- The debt, 0 to 65,535 (R10). -/
  debt : Nat
  /-- The debt-limit latch (R11). -/
  debtLatch : Bool
  /-- The quadrature error flag (R12). -/
  quadError : Bool
  /-- The last phase pair (R6). It follows the inputs EnA, EnB in every state of the axis (R7). -/
  phases : Phases
  deriving DecidableEq, Repr

/-! ### Schedule (chapter 2) -/

/-- The owner of an entry, with the step index of an item-owned one (R19). -/
inductive Owner where
  | item (handle : Handle) (step : Fin 128)
  | host (tag : Word)
  deriving DecidableEq, Repr

/-- The action of an entry with the fields a DEADLINE lacks (R19, R87). -/
inductive Action where
  | pulse (line : Fin 16) (width : Word) (unit : WidthUnit) (cond : Condition)
  | deadline
  deriving DecidableEq, Repr

/-- An allocated schedule entry (R19). -/
structure Entry where
  number : Nat
  axis : Axis
  due : Pos
  owner : Owner
  action : Action
  repeats : ByteField
  spacing : Word
  deriving DecidableEq, Repr

/-! ### Item Table (chapter 3) -/

/-- Where an item came from (R49). -/
inductive ItemOrigin where
  | detector (n : Fin 8)
  | host
  deriving DecidableEq, Repr

/-- Who settled a verdict (R57). -/
inductive VerdictSource where
  | host | default
  deriving DecidableEq, Repr

/-- The number of a recipe bank (R75). -/
inductive BankId where
  | bank0 | bank1
  deriving DecidableEq, Repr

/-- The record of an item in use (R49). The item is AWAITING while `decision` is `none` and DECIDED once it
holds a verdict and its source (R57). -/
structure Item where
  origin : ItemOrigin
  bank : BankId
  recipe : Fin 16
  axis : Axis
  capture : Pos
  dflt : Verdict
  decision : Option (Verdict × VerdictSource)
  tag : Option Word
  pending : Nat
  fired : Nat
  dropped : Nat
  late : Bool
  deriving DecidableEq, Repr

/-- A slot: its generation, kept while FREE, and its item when in use (R46). -/
structure Slot where
  gen : ByteField
  item : Option Item
  deriving DecidableEq, Repr

/-! ### Recipe Store (chapter 4) -/

/-- A step of a bank's pool with its written flag (R75, R77). -/
structure StoredStep where
  step : Step
  written : Bool
  deriving DecidableEq, Repr

/-- A recipe bank: 16 headers and 128 steps (R75). -/
structure Bank where
  headers : Vector RecipeHeader 16
  steps : Vector StoredStep 128
  deriving DecidableEq, Repr

/-! ### Detectors (chapter 5) -/

/-- The capture record: the positions of T, E1 and E2 at the qualifying edge (R90). -/
structure Capture where
  t : Pos
  e1 : Pos
  e2 : Pos
  deriving DecidableEq, Repr

/-- The state of a detector; the capture record is present in QUALIFYING alone (R90). -/
inductive DetectorState where
  | disabled
  | waiting
  | qualifying (capture : Capture)
  | lockout
  deriving DecidableEq, Repr

/-- A detector (R90). The last level follows the input DIn in every state (R91). The count is meaningful in
QUALIFYING and the lockout end in LOCKOUT. -/
structure Detector where
  state : DetectorState
  cfg : DetectorConfig
  lastLevel : Bool
  count : Nat
  lockoutEnd : Pos
  deriving DecidableEq, Repr

/-! ### Output lines and Line Monitor (chapters 6 and 7) -/

/-- The origin of a firing request and of a pulse (R31, R106). -/
inductive Origin where
  | item (handle : Handle)
  | host (tag : Word)
  deriving DecidableEq, Repr

/-- The measure of a pulse or of a request: TIME on T, or DISTANCE on E1 or E2 (R106). -/
inductive Measure where
  | time
  | distance (enc : Enc)
  deriving DecidableEq, Repr

/-- A firing request, as the line receives it and the pending slot holds it (R113, R117). -/
structure FiringRequest where
  width : Word
  unit : WidthUnit
  axis : Axis
  position : Pos
  origin : Origin
  late : Bool
  deriving DecidableEq, Repr

/-- The pulse record, present in ACTIVE (R106). -/
structure Pulse where
  start : Pos
  measure : Measure
  endPos : Pos
  guard : Option Pos
  origin : Origin
  late : Bool
  deferred : Bool
  deriving DecidableEq, Repr

/-- The state of a line (R105), with the records present in each (R106). -/
inductive LineState where
  | disabled
  | idle
  | active (pulse : Pulse)
  | recovery (recoveryEnd : Pos)
  | faulted
  deriving DecidableEq, Repr

/-- The kind of the most recent line fault (R131). -/
inductive FaultKind where
  | none | stuckOn | stuckOff
  deriving DecidableEq, Repr

/-- A line and its monitor channel (R105, R106, R131). -/
structure Line where
  state : LineState
  cfg : LineConfig
  mon : MonitorConfig
  slot : Option FiringRequest
  mismatch : Nat
  sampleTime : Option Pos
  lastSense : Bool
  lastFault : FaultKind
  deriving DecidableEq, Repr

/-! ### Report Queue and Interrupt (chapter 8) -/

/-- The seventeen report kinds (R146). -/
inductive ReportKind where
  | cmdHalt | lineFault | lineOvertime | axisQuadError | axisDebtLimit | itemDone | itemCancelled
  | detectRefused | verdictDefaulted | fireDone | fireDropped | cmdRefused | mark | fenceTimeout
  | bankSwitched | quiesced | lineFaultCleared
  deriving DecidableEq, Repr

/-- The fields of a report record that the offering block fills (R145). -/
structure Report where
  kind : ReportKind
  subject : Word
  axis : Axis
  position : Pos
  detail : BitVec 21
  aux1 : Word
  aux2 : Word
  deriving DecidableEq, Repr

/-- An admitted record: the report with its sequence and lost count (R145, R148). -/
structure Record where
  report : Report
  seq : ByteField
  lost : Nat
  deriving DecidableEq, Repr

/-- The Report Queue: the records held, head first, and the sequence counter (R147). -/
structure ReportQueue where
  records : List Record
  seq : ByteField
  deriving DecidableEq, Repr

/-- The interrupt block and the two levels (R155 to R159). The six level causes follow the blocks' state. -/
structure Interrupt where
  enable : BitVec 7
  overrun : Bool
  watermark : Nat
  spaceLevel : Nat
  deriving DecidableEq, Repr

/-! ### Command ring and parser (chapter 9) -/

/-- The words of the ring by ring index, as a list of (index, word) pairs in canonical form: indexes strictly
rising, and no listed word equal to 0, which is what an unlisted index reads as (R188). -/
abbrev Memory := List (Nat × Word)

/-- The command ring (R163). -/
structure Ring where
  words : Memory
  read : RingIndex
  publish : RingIndex
  fill : RingIndex
  deriving DecidableEq, Repr

/-- The fence record: the fields of the FENCE and its expiry tick (R170, R182). -/
structure FenceRecord where
  fields : FenceFields
  expiry : Option Pos
  deriving DecidableEq, Repr

/-- The parser's state (R170). RUNNING keeps the header that passed its checks while its packet is waited on
or stands complete and not yet taken (R171, R172); FENCED holds the fence record. -/
inductive ParserState where
  | stopped
  | running (kept : Option Word)
  | fenced (fence : FenceRecord)
  | halted
  deriving DecidableEq, Repr

/-- The Packet Parser (R170). -/
structure Parser where
  state : ParserState
  haltCode : HaltCode
  haltIndex : RingIndex
  deriving DecidableEq, Repr

/-! ### Engine Control and Host Bus Interface (chapter 10) -/

/-- The engine state (R198). -/
inductive EngineState where
  | run | quiescing | quiesced
  deriving DecidableEq, Repr

/-- The Host Bus Interface: the two selections, the hold word (chapter 10), and the word that the part last
drove on D0–D15 for a read of POS_LOW. -/
structure HostBus where
  posSelect : Axis
  lineSelect : Fin 16
  hold : Word
  data : Word
  deriving DecidableEq, Repr

/-! ### The whole part -/

/-- The state of the part, and the queue of the commands that wait, first in, first out. -/
structure State where
  /-- The position of T (R3). -/
  t : Pos
  enc1 : EncAxis
  enc2 : EncAxis
  /-- The list of T, head first (R18, R21). -/
  tList : List Entry
  e1List : List Entry
  e2List : List Entry
  /-- The free list, lowest number first (R18). -/
  free : List Nat
  slots : Vector Slot 64
  bank0 : Bank
  bank1 : Bank
  active : BankId
  dets : Vector Detector 8
  lines : Vector Line 16
  /-- The levels on FB0–FB15 at the last tick (R134). -/
  fb : Word
  queue : ReportQueue
  irq : Interrupt
  ring : Ring
  parser : Parser
  engine : EngineState
  bus : HostBus
  /-- The model's own: the commands that wait, the front one next. -/
  pending : List Instr
  deriving DecidableEq, Repr

/-- Why the part could stop with a fault. The manual gives every step an effect in every state, so there is no
such reason and this type is empty. -/
inductive Fault where
  deriving DecidableEq, Repr

/-- Why a step could be refused. -/
inductive Refusal where
  /-- Raised by an arm of `exec` whose row has no meaning yet; no arm raises it. Safe: the machine stops. -/
  | notModelled (mnemonic : String)
  deriving DecidableEq, Repr

/-! ### The values after hardware reset -/

/-- An encoder axis after hardware reset, with the pair its inputs hold at release (R17). -/
def EncAxis.reset (ph : Phases) : EncAxis :=
  { pos := 0
    cfg := { mode := .halted, divider := 1, policy := .bidirectional, invert := false }
    residue := 0
    debt := 0
    debtLatch := false
    quadError := false
    phases := ph }

/-- A slot after hardware reset (R74). -/
def Slot.reset : Slot := { gen := 0, item := none }

/-- A header after hardware reset: undefined (R89). -/
def resetHeader : RecipeHeader := { axis := .t, first := 0, count := 0, dflt := .accept }

/-- A step after hardware reset: cleared and unwritten (R89). -/
def StoredStep.reset : StoredStep :=
  { step :=
      { delay := 0, action := .pulse, line := 0, width := 0, unit := .time, cond := .always,
        repeats := 0, spacing := 0 }
    written := false }

/-- A bank after hardware reset (R89). -/
def Bank.reset : Bank :=
  { headers := Vector.replicate 16 resetHeader, steps := Vector.replicate 128 StoredStep.reset }

/-- A detector after hardware reset, with the level its input holds at release (R104). -/
def Detector.reset (level : Bool) : Detector :=
  { state := .disabled
    cfg := { edge := .rising, qual := 0, recipe := 0, lockAxis := .t, lockDist := 0 }
    lastLevel := level
    count := 0
    lockoutEnd := 0 }

/-- The detectors after hardware reset, DETn with bit n of `di` as its last level (R104). -/
def resetDetectors (di : ByteField) : Vector Detector 8 :=
  #v[.reset (di.getLsbD 0), .reset (di.getLsbD 1), .reset (di.getLsbD 2), .reset (di.getLsbD 3),
     .reset (di.getLsbD 4), .reset (di.getLsbD 5), .reset (di.getLsbD 6), .reset (di.getLsbD 7)]

/-- A line and its channel after hardware reset (R130, R144). -/
def Line.reset : Line :=
  { state := .disabled
    cfg := { policy := .reject, minOff := 0, maxOn := 0, reports := false }
    mon := { enable := false, settle := 20, interval := 0, threshold := .k2, action := .report }
    slot := none
    mismatch := 0
    sampleTime := none
    lastSense := false
    lastFault := .none }

/-- The empty queue with its counter at 0 (R160, R162). -/
def ReportQueue.reset : ReportQueue := { records := [], seq := 0 }

/-- The interrupt block after hardware reset (R162). -/
def Interrupt.reset : Interrupt := { enable := 0, overrun := false, watermark := 48, spaceLevel := 512 }

/-- The ring after hardware reset: every word 0 and every index 0 (R188). -/
def Ring.reset : Ring := { words := [], read := 0, publish := 0, fill := 0 }

/-- The parser after hardware reset (R188). -/
def Parser.reset : Parser := { state := .stopped, haltCode := .none, haltIndex := 0 }

/-- The Host Bus Interface after hardware reset (R205). -/
def HostBus.reset : HostBus := { posSelect := .t, lineSelect := 0, hold := 0, data := 0 }

/-- The part as hardware reset leaves it, with the levels its inputs hold at the release of RESET_N and an
empty queue of commands (R205). -/
def State.afterReset (p1 p2 : Phases) (di : ByteField) (fb : Word) : State :=
  { t := 0
    enc1 := EncAxis.reset p1
    enc2 := EncAxis.reset p2
    tList := []
    e1List := []
    e2List := []
    free := List.range Config.entryCount
    slots := Vector.replicate 64 Slot.reset
    bank0 := Bank.reset
    bank1 := Bank.reset
    active := .bank0
    dets := resetDetectors di
    lines := Vector.replicate 16 Line.reset
    fb := fb
    queue := ReportQueue.reset
    irq := Interrupt.reset
    ring := Ring.reset
    parser := Parser.reset
    engine := .run
    bus := HostBus.reset
    pending := [] }

/-- The machine right after hardware reset. The levels on the inputs at release come from outside the part; here
every input is low (DESIGN CHOICE, notes/assumptions/1.md, unsafe). -/
def State.reset : State :=
  State.afterReset { a := false, b := false } { a := false, b := false } 0 0

end Sys2Proof.Machine
end

