-- ==== Sys2Proof/Machine/Ops.lean ====
section
/-!
DEFINITION. The named operations over the state that every block shares: positions and reach (chapter 1),
axis, list, slot, detector and line access, the ring's memory, the offer of a report record (R148, R149) and
the sizes of the ring's regions (R163).
-/
namespace Sys2Proof.Machine

/-! ### Positions (R1, R21) -/

/-- A position `q` is reached on an axis that stands at `p` (R1). -/
def reached (p q : Pos) : Bool := decide ((p - q).toNat < Config.halfCircle)

/-- The forward distance from `p` to `q` (R1). -/
def forwardDistance (p q : Pos) : Nat := (q - p).toNat

/-- The distance behind of `q` at `p` (R1). -/
def distanceBehind (p q : Pos) : Nat := (p - q).toNat

/-- The lead at position `p` of an entry due at `due` (R21). -/
def lead (p due : Pos) : Int :=
  if reached p due then -(distanceBehind p due : Int) else (forwardDistance p due : Int)

/-- A backward change to `p` would carry a position that a block waits for past half the number circle: the
block moves it back by one unit with the axis (R98, R119, R184). -/
def keepAhead (p q : Pos) : Pos :=
  if forwardDistance p q = Config.halfCircle + 1 then q - 1 else q

/-! ### Axes -/

/-- One encoder axis. -/
def State.encAxis (s : State) : Enc → EncAxis
  | .e1 => s.enc1
  | .e2 => s.enc2

/-- One encoder axis replaced. -/
def State.setEncAxis (s : State) (enc : Enc) (a : EncAxis) : State :=
  match enc with
  | .e1 => { s with enc1 := a }
  | .e2 => { s with enc2 := a }

/-- The present position of an axis (R5). -/
def State.pos (s : State) : Axis → Pos
  | .t => s.t
  | .e1 => s.enc1.pos
  | .e2 => s.enc2.pos

/-- The position of an axis in a capture record (R90). -/
def Capture.on (c : Capture) : Axis → Pos
  | .t => c.t
  | .e1 => c.e1
  | .e2 => c.e2

/-- The three positions at this moment (R92). -/
def State.capture (s : State) : Capture := { t := s.t, e1 := s.enc1.pos, e2 := s.enc2.pos }

/-! ### Lists, slots, banks, detectors, lines -/

/-- The list of an axis (R18). -/
def State.list (s : State) : Axis → List Entry
  | .t => s.tList
  | .e1 => s.e1List
  | .e2 => s.e2List

/-- The list of an axis replaced. -/
def State.setList (s : State) (ax : Axis) (l : List Entry) : State :=
  match ax with
  | .t => { s with tList := l }
  | .e1 => { s with e1List := l }
  | .e2 => { s with e2List := l }

/-- Every schedule list is empty (R43). -/
def State.listsEmpty (s : State) : Bool := s.tList.isEmpty && s.e1List.isEmpty && s.e2List.isEmpty

/-- One slot of the item table. -/
def State.slot (s : State) (i : Fin 64) : Slot := s.slots[i]

/-- One slot replaced. -/
def State.setSlot (s : State) (i : Fin 64) (x : Slot) : State := { s with slots := s.slots.set i x }

/-- The count of slots in use (R71). -/
def State.itemsInUse (s : State) : Nat := s.slots.toList.countP fun x => x.item.isSome

/-- The free count (R18). -/
def State.freeCount (s : State) : Nat := s.free.length

/-- The part is empty: no slot in use and all three lists empty (R199). -/
def State.isEmpty (s : State) : Bool := decide (s.itemsInUse = 0) && s.listsEmpty

/-- The bank that is not the named one. -/
def BankId.other : BankId → BankId
  | .bank0 => .bank1
  | .bank1 => .bank0

/-- A bank by its number. -/
def State.bank (s : State) : BankId → Bank
  | .bank0 => s.bank0
  | .bank1 => s.bank1

/-- A bank replaced. -/
def State.setBank (s : State) (b : BankId) (x : Bank) : State :=
  match b with
  | .bank0 => { s with bank0 := x }
  | .bank1 => { s with bank1 := x }

/-- The ACTIVE bank (R75). -/
def State.activeBank (s : State) : Bank := s.bank s.active

/-- The STAGING bank (R75). -/
def State.stagingBank (s : State) : Bank := s.bank s.active.other

/-- One detector. -/
def State.det (s : State) (n : Fin 8) : Detector := s.dets[n]

/-- One detector replaced. -/
def State.setDet (s : State) (n : Fin 8) (d : Detector) : State := { s with dets := s.dets.set n d }

/-- One line with its monitor channel. -/
def State.line (s : State) (n : Fin 16) : Line := s.lines[n]

/-- One line replaced. -/
def State.setLine (s : State) (n : Fin 16) (l : Line) : State := { s with lines := s.lines.set n l }

/-- Every detector changed by one function. -/
def State.mapDets (s : State) (f : Detector → Detector) : State :=
  { s with dets := ⟨⟨s.dets.toList.map f⟩, by simp⟩ }

/-- Every line changed by one function. -/
def State.mapLines (s : State) (f : Line → Line) : State :=
  { s with lines := ⟨⟨s.lines.toList.map f⟩, by simp⟩ }

/-- Every slot changed by one function. -/
def State.mapSlots (s : State) (f : Slot → Slot) : State :=
  { s with slots := ⟨⟨s.slots.toList.map f⟩, by simp⟩ }

/-- The lines in the order LINE0 to LINE15 (R108). -/
def allLines : List (Fin 16) := List.finRange 16

/-- The detectors in the order DET0 to DET7. -/
def allDetectors : List (Fin 8) := List.finRange 8

/-- The slots in the order 0 to 63 (R46). -/
def allSlots : List (Fin 64) := List.finRange 64

/-! ### The ring's memory (R163, R188) -/

/-- What an index that the memory does not list reads as: every word of the ring is 0 after hardware reset
(R188), and RING_RESET and engine reset keep the words (R179). -/
def Memory.unlisted : Word := 0

/-- One word of the memory. -/
def Memory.read : Memory → Nat → Word
  | [], _ => Memory.unlisted
  | (a, w) :: m, i => if i = a then w else Memory.read m i

/-- The memory without the entry of index `i`, its order kept. -/
def Memory.remove (m : Memory) (i : Nat) : Memory := m.filter fun c => c.1 != i

/-- An entry placed in index order before the first greater index. -/
def Memory.place (i : Nat) (w : Word) : Memory → Memory
  | [] => [(i, w)]
  | (a, v) :: m => if i < a then (i, w) :: (a, v) :: m else (a, v) :: Memory.place i w m

/-- One word written, in canonical form: writing what an unlisted index reads as removes the entry. -/
def Memory.write (m : Memory) (i : Nat) (w : Word) : Memory :=
  if w = Memory.unlisted then m.remove i else Memory.place i w (m.remove i)

/-- The canonical form: indexes strictly rising, all below 1,024, and no listed word equal to what an unlisted
index reads as. -/
abbrev Memory.wf (m : Memory) : Prop :=
  List.Pairwise (fun a b => a.1 < b.1) m ∧ ∀ c ∈ m, c.1 < Config.ringWords ∧ c.2 ≠ Memory.unlisted

/-- The word at a ring index. -/
def State.ringWord (s : State) (i : RingIndex) : Word := Memory.read s.ring.words i.toNat

/-! ### The ring's regions (R163) -/

/-- The size of the published, unread region. -/
def Ring.published (r : Ring) : Nat := (r.publish - r.read).toNat

/-- The size of the written, unpublished region. -/
def Ring.unpublished (r : Ring) : Nat := (r.fill - r.publish).toNat

/-- The free space. -/
def Ring.free (r : Ring) : Nat := (r.read - r.fill - 1).toNat

/-! ### Offering a report (R148, R149) -/

/-- The classes of record (R145). -/
inductive ReportClass where
  | routine | fault
  deriving DecidableEq, Repr

/-- The class that a kind fixes (R146). -/
def ReportKind.cls : ReportKind → ReportClass
  | .cmdHalt => .fault
  | .lineFault => .fault
  | .lineOvertime => .fault
  | .axisQuadError => .fault
  | .axisDebtLimit => .fault
  | .itemDone => .routine
  | .itemCancelled => .routine
  | .detectRefused => .routine
  | .verdictDefaulted => .routine
  | .fireDone => .routine
  | .fireDropped => .routine
  | .cmdRefused => .routine
  | .mark => .routine
  | .fenceTimeout => .routine
  | .bankSwitched => .routine
  | .quiesced => .routine
  | .lineFaultCleared => .routine

/-- The number of held records at which a record of a class is refused (R148). -/
def ReportClass.limit : ReportClass → Nat
  | .routine => Config.routineLimit
  | .fault => Config.queueCapacity

/-- One more loss counted on a record, saturating (R149). -/
def Record.countLoss (r : Record) : Record := { r with lost := min (r.lost + 1) Config.byteLimit }

/-- A loss counted on the tail record (R149). -/
def countLossOnTail : List Record → List Record
  | [] => []
  | [r] => [r.countLoss]
  | r :: rs => r :: countLossOnTail rs

/-- The queue takes an offer: admitted behind the tail with the next sequence and a lost count of 0, or refused
and counted on the tail (R148, R149). -/
def ReportQueue.offer (q : ReportQueue) (r : Report) : ReportQueue :=
  if q.records.length < r.kind.cls.limit then
    { records := q.records ++ [{ report := r, seq := q.seq, lost := 0 }], seq := q.seq + 1 }
  else { q with records := countLossOnTail q.records }

/-- A block of the part offers a record. The queue's answer does not reach the block (R151). -/
def State.offer (s : State) (r : Report) : State := { s with queue := s.queue.offer r }

/-- The head record removed (R153). -/
def ReportQueue.pop (q : ReportQueue) : ReportQueue := { q with records := q.records.tail }

/-- The count of FAULT records held (R147). -/
def ReportQueue.faultCount (q : ReportQueue) : Nat :=
  q.records.countP fun r => decide (r.report.kind.cls = .fault)

/-- The count of ROUTINE records held (R148). -/
def ReportQueue.routineCount (q : ReportQueue) : Nat :=
  q.records.countP fun r => decide (r.report.kind.cls = .routine)

end Sys2Proof.Machine
end

