-- ==== Sys2Proof/Machine/Reports.lean ====
section
/-!
DEFINITION. The contents of each kind of report record, by the tables of 11.4.1 to 11.4.3. Each function takes
the values the offering rule names and gives the fields of the record; who offers it and when stands in the
blocks' own files.
-/
namespace Sys2Proof.Machine

/-- The kind codes (11.4.1). -/
def ReportKind.code : ReportKind → Nat
  | .cmdHalt => 1
  | .lineFault => 2
  | .lineOvertime => 3
  | .axisQuadError => 4
  | .axisDebtLimit => 5
  | .itemDone => 6
  | .itemCancelled => 7
  | .detectRefused => 8
  | .verdictDefaulted => 9
  | .fireDone => 10
  | .fireDropped => 11
  | .cmdRefused => 12
  | .mark => 13
  | .fenceTimeout => 14
  | .bankSwitched => 15
  | .quiesced => 16
  | .lineFaultCleared => 17

/-- The class bit (11.4). -/
def ReportClass.code : ReportClass → Nat
  | .routine => 0
  | .fault => 1

/-- The reasons of a refusal (R174). -/
inductive Reason where
  | busy | stale | late | duplicate | range | noItem | noEntries | noRecipe | quiesced | invalidBank
  | wrongState
  deriving DecidableEq, Repr

/-- The reason codes (11.4.2). -/
def Reason.code : Reason → Nat
  | .busy => 1
  | .stale => 2
  | .late => 3
  | .duplicate => 4
  | .range => 5
  | .noItem => 6
  | .noEntries => 7
  | .noRecipe => 8
  | .quiesced => 9
  | .invalidBank => 10
  | .wrongState => 11

/-- The end reasons of a pulse (R126, 11.4.2). -/
inductive EndReason where
  | normal | forced | overtime | fault | disarmed
  deriving DecidableEq, Repr

/-- The end-reason codes (11.4.2). -/
def EndReason.code : EndReason → Nat
  | .normal => 0
  | .forced => 1
  | .overtime => 2
  | .fault => 3
  | .disarmed => 4

/-- The drop reasons of a request (R127, 11.4.2). -/
inductive DropReason where
  | disabled | faulted | collide | mismatch | disarmed
  deriving DecidableEq, Repr

/-- The drop-reason codes (11.4.2). -/
def DropReason.code : DropReason → Nat
  | .disabled => 0
  | .faulted => 1
  | .collide => 2
  | .mismatch => 3
  | .disarmed => 4

/-- The origin kind of 11.4.2. -/
def Origin.kindCode : Origin → Nat
  | .item _ => 1
  | .host _ => 2

/-- The origin value of 11.4.2. -/
def Origin.value : Origin → Word
  | .item h => h.word
  | .host tag => tag

/-- The fault-kind codes (11.2, 11.4.2). -/
def FaultKind.code : FaultKind → Nat
  | .none => 0
  | .stuckOn => 1
  | .stuckOff => 2

/-- The line-state codes (11.2). -/
def LineState.code : LineState → Nat
  | .disabled => 0
  | .idle => 1
  | .active _ => 2
  | .recovery _ => 3
  | .faulted => 4

/-- The bank number as a number (11.2). -/
def BankId.code : BankId → Nat
  | .bank0 => 0
  | .bank1 => 1

/-- The item-origin codes (11.4.2). -/
def ItemOrigin.code : ItemOrigin → Nat
  | .detector n => n.val
  | .host => 8

/-- The verdict-source bit (11.4.2). -/
def VerdictSource.code : VerdictSource → Nat
  | .host => 0
  | .default => 1

/-- A small number as a word field. -/
def num (n : Nat) : Word := BitVec.ofNat 16 n

/-- A small number as a detail field. -/
def detailOf (n : Nat) : BitVec 21 := BitVec.ofNat 21 n

/-- CMD_HALT (R175). -/
def cmdHaltReport (index : RingIndex) (code : HaltCode) (header : Word) (t : Pos) : Report :=
  { kind := .cmdHalt, subject := index.setWidth 16, axis := .t, position := t
    detail := detailOf code.code, aux1 := header, aux2 := 0 }

/-- LINE_FAULT (R135, R136): the origin of the ACTIVE pulse, or none with the drive off. -/
def lineFaultReport (line : Fin 16) (kind : FaultKind) (action : MonitorAction) (st : LineState)
    (origin : Option Origin) (t : Pos) : Report :=
  { kind := .lineFault, subject := num line.val, axis := .t, position := t
    detail := detailOf (kind.code + 4 * action.code + 16 * st.code +
      256 * (origin.map Origin.kindCode).getD 0)
    aux1 := (origin.map Origin.value).getD 0, aux2 := 0 }

/-- LINE_OVERTIME (R120). -/
def lineOvertimeReport (line : Fin 16) (origin : Origin) (t : Pos) : Report :=
  { kind := .lineOvertime, subject := num line.val, axis := .t, position := t
    detail := detailOf (256 * origin.kindCode), aux1 := origin.value, aux2 := 0 }

/-- AXIS_QUAD_ERROR (R12). -/
def quadErrorReport (enc : Enc) (p : Pos) : Report :=
  { kind := .axisQuadError, subject := num enc.code, axis := enc.axis, position := p
    detail := 0, aux1 := 0, aux2 := 0 }

/-- AXIS_DEBT_LIMIT (R11). -/
def debtLimitReport (enc : Enc) (p : Pos) : Report :=
  { kind := .axisDebtLimit, subject := num enc.code, axis := enc.axis, position := p
    detail := 0, aux1 := 0, aux2 := 0 }

/-- The verdict of an item as 11.4.2 codes it: 0 for NONE. -/
def Item.verdictCode (x : Item) : Nat := (x.decision.map fun d => d.1.code).getD 0

/-- The source bit of an item: 0 with verdict NONE (11.4.2). -/
def Item.sourceCode (x : Item) : Nat := (x.decision.map fun d => d.2.code).getD 0

/-- The item layout of 11.4.2. -/
def Item.layout (x : Item) (removed : Nat) : Nat :=
  x.verdictCode + 4 * x.sourceCode + 8 * flagCode x.late + 16 * flagCode x.tag.isSome +
    32 * x.bank.code + 64 * x.recipe.val + 1024 * x.origin.code + 65536 * removed

/-- ITEM_DONE (R66). -/
def itemDoneReport (h : Handle) (x : Item) : Report :=
  { kind := .itemDone, subject := h.word, axis := x.axis, position := x.capture
    detail := detailOf (x.layout 0), aux1 := wordOf x.dropped x.fired, aux2 := x.tag.getD 0 }

/-- ITEM_CANCELLED (R69), with the number of entries removed. -/
def itemCancelledReport (h : Handle) (x : Item) (removed : Nat) : Report :=
  { kind := .itemCancelled, subject := h.word, axis := x.axis, position := x.capture
    detail := detailOf (x.layout removed), aux1 := wordOf x.dropped x.fired, aux2 := x.tag.getD 0 }

/-- DETECT_REFUSED (R53). -/
def detectRefusedReport (det : Fin 8) (reason : Reason) (recipe : Fin 16) (ax : Axis) (p : Pos) : Report :=
  { kind := .detectRefused, subject := num det.val, axis := ax, position := p
    detail := detailOf reason.code, aux1 := num recipe.val, aux2 := 0 }

/-- VERDICT_DEFAULTED (R61). -/
def verdictDefaultedReport (h : Handle) (v : Verdict) (ax : Axis) (p : Pos) (step : Fin 128)
    (tag : Option Word) : Report :=
  { kind := .verdictDefaulted, subject := h.word, axis := ax, position := p
    detail := detailOf (v.code + 16 * flagCode tag.isSome), aux1 := num step.val, aux2 := tag.getD 0 }

/-- The on-duration of a pulse that ends at `t`: at most 65,535 (R126). -/
def onDuration (start t : Pos) : Nat := min (t - start).toNat Config.maxDuration

/-- FIRE_DONE (R126). -/
def fireDoneReport (line : Fin 16) (p : Pulse) (reason : EndReason) (t : Pos) : Report :=
  { kind := .fireDone, subject := num line.val, axis := .t, position := t
    detail := detailOf (reason.code + 8 * flagCode p.late + 16 * flagCode p.deferred +
      256 * p.origin.kindCode)
    aux1 := p.origin.value, aux2 := num (onDuration p.start t) }

/-- FIRE_DROPPED (R127). -/
def fireDroppedReport (line : Fin 16) (q : FiringRequest) (reason : DropReason) : Report :=
  { kind := .fireDropped, subject := num line.val, axis := q.axis, position := q.position
    detail := detailOf (reason.code + 8 * flagCode q.late + 256 * q.origin.kindCode)
    aux1 := q.origin.value, aux2 := 0 }

/-- CMD_REFUSED (R174, 11.4.3), with the bank-check detail of a SWITCH_BANK or 0. -/
def cmdRefusedReport (kind : PacketKind) (reason : Reason) (bankCheck : Nat) (subject aux1 aux2 : Word) :
    Report :=
  { kind := .cmdRefused, subject := subject, axis := .t, position := 0
    detail := detailOf (reason.code + 16 * bankCheck + 256 * kind.code), aux1 := aux1, aux2 := aux2 }

/-- MARK (R181). -/
def markReport (tag : Word) (t : Pos) : Report :=
  { kind := .mark, subject := tag, axis := .t, position := t, detail := 0, aux1 := 0, aux2 := 0 }

/-- FENCE_TIMEOUT (R185). -/
def fenceTimeoutReport (index : RingIndex) (f : FenceFields) (t : Pos) : Report :=
  { kind := .fenceTimeout, subject := index.setWidth 16, axis := .t, position := t
    detail := detailOf (f.cond.code + 256 * f.axis.code), aux1 := 0, aux2 := 0 }

/-- BANK_SWITCHED (R83). -/
def bankSwitchedReport (b : BankId) (t : Pos) : Report :=
  { kind := .bankSwitched, subject := num b.code, axis := .t, position := t
    detail := 0, aux1 := 0, aux2 := 0 }

/-- QUIESCED (R199). -/
def quiescedReport (t : Pos) : Report :=
  { kind := .quiesced, subject := 0, axis := .t, position := t, detail := 0, aux1 := 0, aux2 := 0 }

/-- LINE_FAULT_CLEARED (R111). -/
def lineFaultClearedReport (line : Fin 16) (t : Pos) : Report :=
  { kind := .lineFaultCleared, subject := num line.val, axis := .t, position := t
    detail := 0, aux1 := 0, aux2 := 0 }

/-! ### The eight words (11.4) -/

/-- Word `n` of a record (11.4). -/
def Record.word (r : Record) (n : Nat) : Word :=
  match n with
  | 0 => num (r.report.kind.code + 256 * r.report.axis.code + 1024 * (r.report.detail.toNat / 65536) +
      32768 * r.report.kind.cls.code)
  | 1 => wordOf r.lost r.seq.toNat
  | 2 => r.report.subject
  | 3 => lowHalf r.report.position
  | 4 => highHalf r.report.position
  | 5 => r.report.detail.setWidth 16
  | 6 => r.report.aux1
  | 7 => r.report.aux2
  | _ => 0

/-- Word `n` of the head record, 0 with the queue empty (R152). -/
def ReportQueue.headWord (q : ReportQueue) (n : Nat) : Word :=
  match q.records with
  | [] => 0
  | r :: _ => r.word n

end Sys2Proof.Machine
end

