-- ==== Sys2Proof/Machine/Lines.lean ====
section
/-!
DEFINITION. Output lines (chapter 6): drive and drive changes, firing requests and their answers, the ends of a
pulse and of a recovery, the shutdown, and the four LINE_CONTROL actions on one line; and the steps PULSE_END,
MAX_ON_EXPIRY and RECOVERY_END.
-/
namespace Sys2Proof.Machine

/-! ### Drive and monitor scheduling (R105, R131, R133) -/

/-- An output drives on if and only if its line is ACTIVE (R105). -/
def Line.drive (l : Line) : Bool :=
  match l.state with
  | .active _ => true
  | _ => false

/-- A line that a LINES_IDLE fence waits for: ACTIVE or in RECOVERY (R182). -/
def Line.busy (l : Line) : Bool :=
  match l.state with
  | .active _ => true
  | .recovery _ => true
  | _ => false

/-- The levels of OUT0–OUT15 (R105). -/
def State.output (s : State) (n : Fin 16) : Bool := (s.line n).drive

/-- The channel is watching (R131). -/
def Line.watching (l : Line) : Bool := l.mon.enable && decide (l.state ≠ .disabled)

/-- The sample time that an event of R133 sets at `t`: S + 1 ticks later, for a watching channel. -/
def Line.scheduleSample (l : Line) (t : Pos) : Line :=
  if l.watching then { l with sampleTime := some (t + l.mon.settle.setWidth 32 + 1) } else l

/-- The line enters `st` by a drive change, or by another event that R133 lists. -/
def Line.enterSampled (l : Line) (st : LineState) (t : Pos) : Line :=
  ({ l with state := st }).scheduleSample t

/-- The line enters DISABLED: its channel stops watching, its sample time becomes absent and its count 0
(R110, R138). -/
def Line.enterDisabled (l : Line) : Line :=
  { l with state := .disabled, slot := none, sampleTime := none, mismatch := 0 }

/-! ### Requests (R113 to R117) -/

/-- The measure of a request: unit TIME is measured on T, unit DISTANCE on the request's axis. By R20 no
request of unit DISTANCE names T, where a distance is a count of ticks (R106). -/
def FiringRequest.measure (q : FiringRequest) : Measure :=
  match q.unit, q.axis with
  | .time, _ => .time
  | .distance, .t => .time
  | .distance, .e1 => .distance .e1
  | .distance, .e2 => .distance .e2

/-- The present position of a measuring axis. -/
def State.measurePos (s : State) : Measure → Pos
  | .time => s.t
  | .distance enc => s.pos enc.axis

/-- The pulse record of a request that starts with T at `t` and its measuring axis at `p` (R114, R122). -/
def FiringRequest.pulse (q : FiringRequest) (cfg : LineConfig) (t p : Pos) (deferred : Bool) : Pulse :=
  { start := t
    measure := q.measure
    endPos := p + q.width.setWidth 32
    guard := if cfg.maxOn = 0 then none else some (t + cfg.maxOn.setWidth 32)
    origin := q.origin
    late := q.late
    deferred := deferred }

/-- The pulse that a request starts now on a line (R114, R122). -/
def State.pulseFor (s : State) (l : Line) (q : FiringRequest) (deferred : Bool) : Pulse :=
  q.pulse l.cfg s.t (s.measurePos q.measure) deferred

/-- A pulse extended by a request of the same measure, whose axis stands at `p` (R115). -/
def Pulse.extend (u : Pulse) (q : FiringRequest) (p : Pos) : Pulse :=
  let e := p + q.width.setWidth 32
  { u with
    endPos := if forwardDistance p u.endPos < forwardDistance p e then e else u.endPos
    origin := q.origin
    late := q.late
    deferred := false }

/-- A line's answer to a request (R31, R113). -/
inductive Answer where
  | accepted
  | dropped (reason : DropReason)
  deriving DecidableEq, Repr

/-- The answer of R113 and the line after it; a drop leaves the line as it is. -/
def State.answer (s : State) (n : Fin 16) (q : FiringRequest) : Line × Answer :=
  let l := s.line n
  let deferred : Line × Answer :=
    match l.slot with
    | none => ({ l with slot := some q }, .accepted)
    | some _ => (l, .dropped .collide)
  match l.state with
  | .disabled => (l, .dropped .disabled)
  | .faulted => (l, .dropped .faulted)
  | .idle => (l.enterSampled (.active (s.pulseFor l q false)) s.t, .accepted)
  | .active u =>
    match l.cfg.policy with
    | .extend =>
      if u.measure = q.measure then
        ({ l with state := .active (u.extend q (s.measurePos u.measure)) }, .accepted)
      else (l, .dropped .mismatch)
    | .reject => (l, .dropped .collide)
    | .defer => deferred
  | .recovery _ =>
    match l.cfg.policy with
    | .extend => (l, .dropped .collide)
    | .reject => (l, .dropped .collide)
    | .defer => deferred

/-- A firing request taken by a line: the line answers at once, and every drop offers FIRE_DROPPED
(R113, R127). -/
def State.request (s : State) (n : Fin 16) (q : FiringRequest) : State × Answer :=
  match s.answer n q with
  | (l, .accepted) => (s.setLine n l, .accepted)
  | (_, .dropped r) => (s.offer (fireDroppedReport n q r), .dropped r)

/-! ### The end of a pulse (R121, R122, R126) -/

/-- FIRE_DONE at a pulse end, when the line's firing reports are on (R126). -/
def State.offerFireDone (s : State) (n : Fin 16) (u : Pulse) (reason : EndReason) : State :=
  if (s.line n).cfg.reports then s.offer (fireDoneReport n u reason s.t) else s

/-- FIRE_DROPPED for a request that leaves the pending slot unstarted (R127). -/
def State.offerSlotDrop (s : State) (n : Fin 16) (reason : DropReason) : State :=
  match (s.line n).slot with
  | some q => s.offer (fireDroppedReport n q reason)
  | none => s

/-- The pending request starts, with the DEFERRED flag set and positions taken at this event (R122). -/
def State.startPending (s : State) (l : Line) (q : FiringRequest) : Line :=
  { l with state := .active (s.pulseFor l q true), slot := none }

/-- The line after a pulse that ended NORMAL, FORCED or OVERTIME: RECOVERY for min-off ticks, or with min-off 0
the pending request, which makes no drive change, or IDLE (R121, R122, R105). -/
def State.afterPulse (s : State) (l : Line) : Line :=
  if l.cfg.minOff = 0 then
    match l.slot with
    | some q => s.startPending l q
    | none => l.enterSampled .idle s.t
  else l.enterSampled (.recovery (s.t + l.cfg.minOff.setWidth 32)) s.t

/-- A pulse ends NORMAL, FORCED or OVERTIME (R121). -/
def State.endPulse (s : State) (n : Fin 16) (u : Pulse) (reason : EndReason) : State :=
  let s1 := s.offerFireDone n u reason
  s1.setLine n (s1.afterPulse (s1.line n))

/-- The advance that brought the measuring axis to the pulse's end is owed to the line (R118). -/
def State.endDue (s : State) (u : Pulse) : Bool := decide (u.endPos = s.measurePos u.measure)

/-- PULSE_END on one line: the pulse ends NORMAL at the advance whose new position equals its end position;
an event that finds no such pulse does nothing (R118, R125). -/
def State.pulseEnd (s : State) (n : Fin 16) : State :=
  match (s.line n).state with
  | .active u => if s.endDue u then s.endPulse n u .normal else s
  | _ => s

/-- MAX_ON_EXPIRY on one line: the advance of T to the guard tick ends the pulse OVERTIME, after LINE_OVERTIME,
unless that same advance of T ends a TIME pulse NORMAL (R118, R120). -/
def State.maxOnExpiry (s : State) (n : Fin 16) : State :=
  match (s.line n).state with
  | .active u =>
    if u.guard = some s.t then
      if u.measure = .time ∧ u.endPos = s.t then s.endPulse n u .normal
      else (s.offer (lineOvertimeReport n u.origin s.t)).endPulse n u .overtime
    else s
  | _ => s

/-- RECOVERY_END on one line: the advance of T to the recovery end starts the pending request, which is a drive
change, or returns the line to IDLE, which is not (R122, R133). -/
def State.recoveryEnd (s : State) (n : Fin 16) : State :=
  let l := s.line n
  match l.state with
  | .recovery e =>
    if e = s.t then
      match l.slot with
      | some q => s.setLine n ((s.startPending l q).scheduleSample s.t)
      | none => s.setLine n { l with state := .idle }
    else s
  | _ => s

/-- The shutdown of a line by its monitor: FIRE_DONE FAULT, FIRE_DROPPED FAULTED, then FAULTED with the slot
empty; leaving ACTIVE is a drive change (R123, R133). -/
def State.shutdown (s : State) (n : Fin 16) : State :=
  match (s.line n).state with
  | .active u =>
    let s1 := (s.offerFireDone n u .fault).offerSlotDrop n .faulted
    s1.setLine n (({ s1.line n with slot := none }).enterSampled .faulted s1.t)
  | _ =>
    let s1 := s.offerSlotDrop n .faulted
    s1.setLine n { s1.line n with slot := none, state := .faulted }

/-! ### The four actions of LINE_CONTROL on one line (R109 to R112) -/

/-- The CMD_REFUSED of a LINE_CONTROL action on one line (R108, 11.4.3). -/
def State.refuseLineAction (s : State) (n : Fin 16) (a : LineAction) : State :=
  s.offer (cmdRefusedReport .lineControl .wrongState 0 (num n.val) (num a.code) 0)

/-- ARM on one line (R109). -/
def State.armLine (s : State) (n : Fin 16) : State :=
  let l := s.line n
  match l.state with
  | .disabled => s.setLine n (l.enterSampled .idle s.t)
  | .faulted => s.refuseLineAction n .arm
  | _ => s

/-- DISARM on one line (R110). -/
def State.disarmLine (s : State) (n : Fin 16) : State :=
  match (s.line n).state with
  | .disabled => s
  | .active u =>
    let s1 := (s.offerFireDone n u .disarmed).offerSlotDrop n .disarmed
    s1.setLine n (s1.line n).enterDisabled
  | _ =>
    let s1 := s.offerSlotDrop n .disarmed
    s1.setLine n (s1.line n).enterDisabled

/-- CLEAR_FAULT on one line (R111, R139). -/
def State.clearLineFault (s : State) (n : Fin 16) : State :=
  let l := s.line n
  match l.state with
  | .faulted =>
    (s.setLine n (({ l with mismatch := 0 }).enterSampled .idle s.t)).offer
      (lineFaultClearedReport n s.t)
  | _ => s.refuseLineAction n .clearFault

/-- FORCE_OFF on one line (R112). -/
def State.forceLineOff (s : State) (n : Fin 16) : State :=
  match (s.line n).state with
  | .active u => s.endPulse n u .forced
  | _ => s

/-- An action taken by each masked line, in order from LINE0 to LINE15 (R108). -/
def State.forLines (s : State) (mask : Word) (act : State → Fin 16 → State) : State :=
  allLines.foldl (fun s n => if mask.getLsbD n.val then act s n else s) s

/-! ### Configuration (R107, R132) -/

/-- CONFIG_LINE: a DISABLED line takes all fields at once, and a change of any monitor field sets the count to
0; in any other state the packet is refused BUSY (R107, R132). -/
def State.configLine (s : State) (n : Fin 16) (cfg : LineConfig) (mon : MonitorConfig) : State :=
  let l := s.line n
  match l.state with
  | .disabled =>
    s.setLine n { l with cfg := cfg, mon := mon, mismatch := if mon = l.mon then l.mismatch else 0 }
  | _ => s.offer (cmdRefusedReport .configLine .busy 0 (num n.val) 0 0)

/-! ### Engine reset (R129, R143) -/

/-- A line and its channel at engine reset (R129, R143). -/
def Line.engineReset (t : Pos) (l : Line) : Line :=
  let st : LineState :=
    match l.state with
    | .active _ => .idle
    | .recovery _ => .idle
    | other => other
  ({ l with state := st, slot := none, mismatch := 0, sampleTime := none }).scheduleSample t

end Sys2Proof.Machine
end

