-- ==== Sys2Proof/Machine/Monitor.lean ====
section
/-!
DEFINITION. The Line Monitor (chapter 7): the sample of one channel with the fault and the shutdown it may raise.
-/
namespace Sys2Proof.Machine

/-- The level of FBn as it stands (R134). -/
def State.sense (s : State) (n : Fin 16) : Bool := s.fb.getLsbD n.val

/-- The kind of a fault raised with the drive on or off (R135). -/
def faultKindOf (drive : Bool) : FaultKind := if drive then .stuckOff else .stuckOn

/-- The origin of a line's ACTIVE pulse, if it has one (R135). -/
def Line.pulseOrigin (l : Line) : Option Origin :=
  match l.state with
  | .active u => some u.origin
  | _ => none

/-- The next interval sample: T plus P, or absent with P 0 (R134). -/
def Line.nextSample (l : Line) (t : Pos) : Option Pos :=
  if l.mon.interval = 0 then none else some (t + l.mon.interval.setWidth 32)

/-- The channel after a sample that read `sense`, and whether the sample brought the count to K
(R134, R135, R137): an agreeing sample sets the count to 0, a disagreeing one raises it, and the one that would
bring it to K returns it to 0. -/
def Line.sampled (l : Line) (t : Pos) (sense : Bool) : Line × Bool :=
  let l1 := { l with lastSense := sense, sampleTime := l.nextSample t }
  if sense = l.drive then ({ l1 with mismatch := 0 }, false)
  else if l.mon.threshold.toNat ≤ l.mismatch + 1 then ({ l1 with mismatch := 0 }, true)
  else ({ l1 with mismatch := l.mismatch + 1 }, false)

/-- The line fault of R135 and R136 on a line that is not FAULTED. `before` is the line at the sample. -/
def State.raiseFault (s : State) (n : Fin 16) (before : Line) : State :=
  let kind := faultKindOf before.drive
  let s1 := s.setLine n { s.line n with lastFault := kind }
  let s2 :=
    match before.mon.action with
    | .report => s1
    | .shutdown => s1.shutdown n
  s2.offer (lineFaultReport n kind before.mon.action before.state before.pulseOrigin s.t)

/-- A sample of a channel (R134): no fault is raised in FAULTED (R137). -/
def State.takeSample (s : State) (n : Fin 16) : State :=
  let l := s.line n
  match l.sampled s.t (s.sense n) with
  | (l1, false) => s.setLine n l1
  | (l1, true) => if l.state = .faulted then s.setLine n l1 else (s.setLine n l1).raiseFault n l

/-- MONITOR_SAMPLE on one channel: taken at the advance of T whose new position equals the sample time of a
watching channel; an event that finds no such time does nothing (R134, R140). -/
def State.monitorSample (s : State) (n : Fin 16) : State :=
  let l := s.line n
  if l.watching ∧ l.sampleTime = some s.t then s.takeSample n else s

end Sys2Proof.Machine
end

