-- ==== Sys2Proof/Machine/Items.lean ====
section
/-!
DEFINITION. The Item Table (chapter 3): stale handles, defaults, tallies, retirement, VERDICT and CANCEL_ITEM;
and the test by which a QUIESCING engine follows the notices of the table and of the schedule (R200).
-/
namespace Sys2Proof.Machine

/-- The item a handle names, when the handle is not stale (R48). -/
def State.findItem (s : State) (h : Handle) : Option Item :=
  let x := s.slot h.slot
  if x.gen = h.gen then x.item else none

/-- The item record in a slot replaced, the generation kept. -/
def State.setItem (s : State) (i : Fin 64) (x : Option Item) : State :=
  s.setSlot i { s.slot i with item := x }

/-- One more counted, stopping at 255 (R63). -/
def countUp (n : Nat) : Nat := min (n + 1) Config.byteLimit

/-- The tally of a line's answer to an item's request (R63). -/
def Item.tally (x : Item) : Answer → Item
  | .accepted => { x with fired := countUp x.fired }
  | .dropped _ => { x with dropped := countUp x.dropped }

/-- An item-owned request's answer passed to the Item Table (R31, R63). -/
def State.tally (s : State) (h : Handle) (a : Answer) : State :=
  match s.findItem h with
  | some x => s.setItem h.slot (some (x.tally a))
  | none => s

/-- The default verdict at a decision point: an AWAITING item becomes DECIDED with source DEFAULT and
VERDICT_DEFAULTED is offered; a DECIDED item is not touched (R61). `ax` and `p` are the item's axis and its
position at the release. -/
def State.applyDefault (s : State) (h : Handle) (step : Fin 128) (ax : Axis) (p : Pos) : State :=
  match s.findItem h with
  | some x =>
    match x.decision with
    | none =>
      (s.setItem h.slot (some { x with decision := some (x.dflt, .default) })).offer
        (verdictDefaultedReport h x.dflt ax p step x.tag)
    | some _ => s
  | none => s

/-- The verdict an item holds, if it is DECIDED (R57). -/
def State.verdictOf (s : State) (h : Handle) : Option Verdict :=
  match s.findItem h with
  | some x => x.decision.map fun d => d.1
  | none => none

/-- A condition evaluated against an item's verdict (R26, R27). -/
def conditionHolds : Condition → Option Verdict → Bool
  | .always, _ => true
  | .ifAccept, v => decide (v = some .accept)
  | .ifReject, v => decide (v = some .reject)

/-- The Item Table told of a LATE release (R64). -/
def State.markLate (s : State) (h : Handle) : State :=
  match s.findItem h with
  | some x => s.setItem h.slot (some { x with late := true })
  | none => s

/-- The pending count lowered by one freed entry; at 0 the item retires: ITEM_DONE, then the slot is FREE with
its generation kept (R34, R65). -/
def State.lowerPending (s : State) (h : Handle) : State :=
  match s.findItem h with
  | some x =>
    let y := { x with pending := x.pending - 1 }
    if y.pending = 0 then (s.offer (itemDoneReport h y)).setItem h.slot none
    else s.setItem h.slot (some y)
  | none => s

/-! ### Engine Control's test at a notice (R199, R200, R71, R43) -/

/-- Engine Control enters QUIESCED and offers its record (R199). -/
def State.enterQuiesced (s : State) : State :=
  { s with engine := .quiesced }.offer (quiescedReport s.t)

/-- The end of an event that may have emptied lists or the table: `before` is the part before the event. A
QUIESCING engine enters QUIESCED at the event that leaves the part empty, after that event's records (R200). -/
def State.engineNotice (s before : State) : State :=
  if s.engine = .quiescing ∧ s.isEmpty ∧ ¬ before.isEmpty then s.enterQuiesced else s

/-! ### Removal of entries (R18, R40, R41) -/

/-- A number put back on the free list, which stands lowest first (R18). -/
def insertFree (n : Nat) : List Nat → List Nat
  | [] => [n]
  | m :: ms => if n ≤ m then n :: m :: ms else m :: insertFree n ms

/-- An entry put back on the free list (R18). -/
def State.freeNumber (s : State) (n : Nat) : State := { s with free := insertFree n s.free }

/-- Entries put back on the free list, in order. -/
def State.freeNumbers (s : State) (es : List Entry) : State :=
  es.foldl (fun s e => s.freeNumber e.number) s

/-- The entries that satisfy `p`, removed from all three lists and freed; the others keep their order
(R40, R41). -/
def State.removeEntries (s : State) (p : Entry → Bool) : State :=
  let gone := s.tList.filter p ++ s.e1List.filter p ++ s.e2List.filter p
  { s with
    tList := s.tList.filter fun e => !p e
    e1List := s.e1List.filter fun e => !p e
    e2List := s.e2List.filter fun e => !p e }.freeNumbers gone

/-- The number of entries in the lists that satisfy `p`. -/
def State.countEntries (s : State) (p : Entry → Bool) : Nat :=
  s.tList.countP p + s.e1List.countP p + s.e2List.countP p

/-- An entry carries an item's handle (R41). -/
def Entry.ofItem (h : Handle) (e : Entry) : Bool :=
  match e.owner with
  | .item g _ => decide (g = h)
  | .host _ => false

/-- A host-owned entry carries a tag (R40). -/
def Entry.ofTag (tag : Word) (e : Entry) : Bool :=
  match e.owner with
  | .item _ _ => false
  | .host u => decide (u = tag)

/-! ### The packets of the Item Table -/

/-- The CMD_REFUSED of a VERDICT (R58, 11.4.3). -/
def State.refuseVerdict (s : State) (h : Handle) (v : Verdict) (tag : Word) (r : Reason) : State :=
  s.offer (cmdRefusedReport .verdict r 0 h.word (num v.code) tag)

/-- VERDICT (R58). -/
def State.verdict (s : State) (h : Handle) (v : Verdict) (tag : Word) : State :=
  match s.findItem h with
  | none => s.refuseVerdict h v tag .stale
  | some x =>
    match x.decision with
    | none => s.setItem h.slot (some { x with decision := some (v, .host), tag := some tag })
    | some (_, .default) => s.refuseVerdict h v tag .late
    | some (_, .host) => s.refuseVerdict h v tag .duplicate

/-- CANCEL_ITEM (R68, R69): the item's entries removed and freed, ITEM_CANCELLED with their number, the slot
FREE, and then the notices. -/
def State.cancelItem (s : State) (h : Handle) : State :=
  match s.findItem h with
  | none => s.offer (cmdRefusedReport .cancelItem .stale 0 h.word 0 0)
  | some x =>
    let n := s.countEntries (Entry.ofItem h)
    (((s.removeEntries (Entry.ofItem h)).offer (itemCancelledReport h x n)).setItem h.slot none).engineNotice s

/-- CANCEL_TAG (R40). -/
def State.cancelTag (s : State) (tag : Word) : State :=
  (s.removeEntries (Entry.ofTag tag)).engineNotice s

end Sys2Proof.Machine
end

