-- ==== Sys2Proof/Machine/Schedule.lean ====
section
/-!
DEFINITION. The Schedule (chapter 2): insertion by lead, release passes, repeats, freeing and expiry, the mapping
from steps to entries (4.4), admission (3.3) and SCHEDULE_FIRE; and the step SCHEDULE_RELEASE_PASS.
-/
namespace Sys2Proof.Machine

/-! ### Insertion (R22) -/

/-- An entry placed in a list whose axis stands at `p`: after every entry of equal or smaller lead and before
every entry of greater lead (R22). -/
def insertByLead (p : Pos) (e : Entry) : List Entry → List Entry
  | [] => [e]
  | x :: xs => if lead p x.due ≤ lead p e.due then x :: insertByLead p e xs else e :: x :: xs

/-- An entry inserted into the list of an axis (R22). -/
def State.insert (s : State) (ax : Axis) (e : Entry) : State :=
  s.setList ax (insertByLead (s.pos ax) e (s.list ax))

/-! ### Acting on a released entry (R25 to R31) -/

/-- The origin that an entry gives its request (R31). -/
def Owner.origin : Owner → Origin
  | .item h _ => .item h
  | .host tag => .host tag

/-- The firing request of an entry released with its axis `ax` at `p` (R31). -/
def Entry.request (e : Entry) (width : Word) (unit : WidthUnit) (ax : Axis) (p : Pos) : FiringRequest :=
  { width := width, unit := unit, axis := ax, position := p, origin := e.owner.origin
    late := decide (p ≠ e.due) }

/-- The action of a released entry: the default verdict where it is a decision point, the condition, the
request and the tally of its answer (R26 to R31, R35). -/
def State.actOn (s : State) (ax : Axis) (e : Entry) : State :=
  let p := s.pos ax
  match e.owner, e.action with
  | .item h step, .deadline => s.applyDefault h step ax p
  | .host _, .deadline => s
  | .host _, .pulse line width unit _ => (s.request line (e.request width unit ax p)).1
  | .item h step, .pulse line width unit cond =>
    let s1 := if cond = .always then s else s.applyDefault h step ax p
    if conditionHolds cond (s1.verdictOf h) then
      let r := s1.request line (e.request width unit ax p)
      r.1.tally h r.2
    else s1

/-- The Item Table told of a LATE release of an item-owned entry (R25, R64). -/
def State.tellLate (s : State) (ax : Axis) (e : Entry) : State :=
  match e.owner with
  | .item h _ => if s.pos ax = e.due then s else s.markLate h
  | .host _ => s

/-- An entry freed after its last release or at expiry (R34, R23). -/
def State.freeEntry (s : State) (e : Entry) : State :=
  let s1 := s.freeNumber e.number
  match e.owner with
  | .item h _ => s1.lowerPending h
  | .host _ => s1

/-- An entry with repeats remaining, at its next grid point (R32). -/
def Entry.again (e : Entry) : Entry :=
  { e with due := e.due + e.spacing.setWidth 32, repeats := e.repeats - 1 }

/-- One release of an entry already removed from the head of the list of `ax`, in the order of R35. -/
def State.release (s : State) (ax : Axis) (e : Entry) : State :=
  let s1 := (s.actOn ax e).tellLate ax e
  if e.repeats = 0 then s1.freeEntry e else s1.insert ax e.again

/-! ### The release pass (R24, R33) -/

/-- Releases from the head of a list while the head is reached, at most `n` of them. -/
def State.passLoop (ax : Axis) : Nat → State → State
  | 0, s => s
  | n + 1, s =>
    match s.list ax with
    | [] => s
    | e :: rest =>
      if reached (s.pos ax) e.due then State.passLoop ax n ((s.setList ax rest).release ax e) else s

/-- The most releases a pass can make: one for each entry and one for each repeat (R33). -/
def passBound (l : List Entry) : Nat := (l.map fun e => 1 + e.repeats.toNat).sum

/-- A release pass of the list of an axis (R24). -/
def State.releasePass (s : State) (ax : Axis) : State := State.passLoop ax (passBound (s.list ax)) s

/-- SCHEDULE_RELEASE_PASS: the pass for the advance announced to the list, and the notices at its end
(R24, R43, R200). A list whose head is not reached releases nothing. -/
def State.passEvent (s : State) (ax : Axis) : State := (s.releasePass ax).engineNotice s

/-! ### Expiry (R23) -/

/-- An entry that a backward change from `p` to `p - 1` carries past half the number circle (R23). -/
def Entry.expires (p : Pos) (e : Entry) : Bool := decide (lead p e.due = (Config.halfCircle : Int))

/-- The entries of a list that expire as its axis goes back from `p`, removed and freed in list order without
any action (R23). -/
def State.expire (s : State) (ax : Axis) (p : Pos) : State :=
  let gone := (s.list ax).filter (Entry.expires p)
  let s1 := s.setList ax ((s.list ax).filter fun e => !Entry.expires p e)
  gone.foldl (fun s e => s.freeEntry e) s1

/-! ### From steps to entries (R20, R86, R87) -/

/-- The width unit an entry stores: a distance on T is a count of ticks (R20). -/
def storedUnit (ax : Axis) (u : WidthUnit) : WidthUnit := if ax = .t then .time else u

/-- The entry built from a step (R86, R87). -/
def stepEntry (st : Step) (number : Nat) (ax : Axis) (capture : Pos) (h : Handle) (index : Fin 128) : Entry :=
  { number := number
    axis := ax
    due := capture + st.delay.setWidth 32
    owner := .item h index
    action :=
      match st.action with
      | .pulse => .pulse st.line st.width (storedUnit ax st.unit) st.cond
      | .deadline => .deadline
    repeats :=
      match st.action with
      | .pulse => st.repeats
      | .deadline => 0
    spacing := st.spacing }

/-- The step indexes of a recipe, in order (R76). -/
def stepIndexes (h : RecipeHeader) : List (Fin 128) :=
  (List.range h.count).map fun k => Fin.ofNat 128 (h.first.val + k)

/-! ### Admission (R51 to R56) -/

/-- A request for admission: the origin, the recipe number, the tag of an INJECT_ITEM, and the capture
position on the recipe's axis. -/
structure AdmissionRequest where
  origin : ItemOrigin
  recipe : Fin 16
  tag : Option Word
  capture : Pos
  deriving DecidableEq, Repr

/-- The header of a recipe in the ACTIVE bank (R84). -/
def State.recipe (s : State) (r : Fin 16) : RecipeHeader := s.activeBank.headers[r]

/-- The lowest-numbered FREE slot (R46). -/
def State.lowestFreeSlot (s : State) : Option (Fin 64) :=
  allSlots.find? fun i => (s.slot i).item.isNone

/-- The four checks of admission, the first to fail giving the reason (R52). -/
def State.admissionCheck (s : State) (r : Fin 16) : Option Reason :=
  if s.engine ≠ .run then some .quiesced
  else if (s.recipe r).count = 0 then some .noRecipe
  else if s.lowestFreeSlot = none then some .noItem
  else if s.freeCount < (s.recipe r).count then some .noEntries
  else none

/-- The item record at admission (R49, R54). -/
def State.newItem (s : State) (q : AdmissionRequest) : Item :=
  let hd := s.recipe q.recipe
  { origin := q.origin
    bank := s.active
    recipe := q.recipe
    axis := hd.axis
    capture := q.capture
    dflt := hd.dflt
    decision := none
    tag := q.tag
    pending := hd.count
    fired := 0
    dropped := 0
    late := false }

/-- The entries of an admitted item: the lowest free numbers assigned to the steps in index order (R36). -/
def State.newEntries (s : State) (q : AdmissionRequest) (h : Handle) : List Entry :=
  let hd := s.recipe q.recipe
  ((s.free.take hd.count).zip (stepIndexes hd)).map fun x =>
    stepEntry (s.activeBank.steps[x.2]).step x.1 hd.axis q.capture h x.2

/-- Admission carried out (R54, R36): slot `i` taken and its generation advanced, the record filled, the
entries allocated and inserted in step order, and the list's release pass. -/
def State.admitTo (s : State) (q : AdmissionRequest) (i : Fin 64) : State :=
  let hd := s.recipe q.recipe
  let h : Handle := { gen := (s.slot i).gen + 1, slot := i }
  let s1 := s.setSlot i { gen := h.gen, item := some (s.newItem q) }
  let s2 := { s1 with free := s1.free.drop hd.count }
  ((s.newEntries q h).foldl (fun s e => s.insert hd.axis e) s2).releasePass hd.axis

/-- Admission after its checks have passed (R54). -/
def State.admitItem (s : State) (q : AdmissionRequest) : State :=
  match s.lowestFreeSlot with
  | some i => s.admitTo q i
  | none => s

/-- A detection event at the Item Table (R51, R53, R54). -/
def State.detectionEvent (s : State) (n : Fin 8) (r : Fin 16) (c : Capture) : State :=
  let p := c.on (s.recipe r).axis
  match s.admissionCheck r with
  | some reason => s.offer (detectRefusedReport n reason r (s.recipe r).axis p)
  | none => s.admitItem { origin := .detector n, recipe := r, tag := none, capture := p }

/-- INJECT_ITEM (R55, R53). -/
def State.injectItem (s : State) (r : Fin 16) (backdate tag : Word) : State :=
  match s.admissionCheck r with
  | some reason => s.offer (cmdRefusedReport .injectItem reason 0 (num r.val) 0 tag)
  | none =>
    s.admitItem
      { origin := .host, recipe := r, tag := some tag
        capture := s.pos (s.recipe r).axis - backdate.setWidth 32 }

/-! ### SCHEDULE_FIRE (R38, R39) -/

/-- The window of SCHEDULE_FIRE for an axis that stands at `p` (R39). -/
def inFireWindow (p due : Pos) : Bool :=
  if reached p due then decide (distanceBehind p due < Config.fireWindow)
  else decide (forwardDistance p due < Config.fireWindow)

/-- The three checks of SCHEDULE_FIRE (R38). -/
def State.fireCheck (s : State) (f : FireFields) : Option Reason :=
  if s.engine ≠ .run then some .quiesced
  else if inFireWindow (s.pos f.axis) f.due = false then some .range
  else if s.freeCount < 1 then some .noEntries
  else none

/-- The host entry of a SCHEDULE_FIRE (R19, R20, R38). -/
def fireEntry (f : FireFields) (number : Nat) : Entry :=
  { number := number
    axis := f.axis
    due := f.due
    owner := .host f.tag
    action := .pulse f.line f.width (storedUnit f.axis f.unit) .always
    repeats := f.repeats
    spacing := f.spacing }

/-- An accepted SCHEDULE_FIRE: the lowest free entry allocated, inserted, and the list's release pass (R38). -/
def State.fireNow (s : State) (f : FireFields) : State :=
  match s.free with
  | [] => s
  | n :: rest => (({ s with free := rest }).insert f.axis (fireEntry f n)).releasePass f.axis

/-- SCHEDULE_FIRE (R38). -/
def State.scheduleFire (s : State) (f : FireFields) : State :=
  match s.fireCheck f with
  | some reason => s.offer (cmdRefusedReport .scheduleFire reason 0 f.tag 0 0)
  | none => s.fireNow f

end Sys2Proof.Machine
end

