-- ==== Sys2Proof/Machine/Detectors.lean ====
section
/-!
DEFINITION. Detectors (chapter 5): edges and capture, qualification, the detection event and lockout, the two
packets; and the steps DETECTOR_EDGE, QUALIFICATION_COMPLETE and LOCKOUT_END.
-/
namespace Sys2Proof.Machine

/-- The active level of the selected edge (R90). -/
def activeLevel : Edge → Bool
  | .rising => true
  | .falling => false

/-- The lockout end of a detection (R96). -/
def lockoutEndOf (cfg : DetectorConfig) (c : Capture) : Pos :=
  c.on cfg.lockAxis + cfg.lockDist.setWidth 32

/-- The detector after its detection event: WAITING when L is 0 or the end is already reached, else LOCKOUT
(R96). -/
def State.afterDetection (s : State) (d : Detector) (c : Capture) : Detector :=
  let e := lockoutEndOf d.cfg c
  let st : DetectorState :=
    if d.cfg.lockDist = 0 then .waiting
    else if reached (s.pos d.cfg.lockAxis) e then .waiting
    else .lockout
  { d with state := st, lockoutEnd := e }

/-- The detection event of a detector with capture record `c`: the Item Table's admission or refusal, and the
detector's own passage, which does not depend on it (R95). -/
def State.detect (s : State) (n : Fin 8) (c : Capture) : State :=
  let s1 := s.detectionEvent n (s.det n).cfg.recipe c
  s1.setDet n (s1.afterDetection (s1.det n) c)

/-- A selected edge in WAITING: the capture, the count set to 0, and with Q 0 the detection event within the
edge event itself (R92). -/
def State.startQualifying (s : State) (n : Fin 8) : State :=
  let d := s.det n
  let s1 := s.setDet n { d with state := .qualifying s.capture, count := 0 }
  if d.cfg.qual = 0 then s1.detect n s.capture else s1

/-- DETECTOR_EDGE: the level becomes the last level; a level that is no change is no edge (R91). In WAITING a
selected edge starts qualification (R92); in QUALIFYING an edge away from the active level is a glitch (R94); in
DISABLED and LOCKOUT an edge is otherwise ignored (R97). -/
def State.detectorEdge (s : State) (n : Fin 8) (level : Bool) : State :=
  let d := s.det n
  if level = d.lastLevel then s
  else
    let s1 := s.setDet n { d with lastLevel := level }
    match d.state with
    | .disabled => s1
    | .lockout => s1
    | .waiting => if level = activeLevel d.cfg.edge then s1.startQualifying n else s1
    | .qualifying _ =>
      if level = activeLevel d.cfg.edge then s1
      else s1.setDet n { s1.det n with state := .waiting }

/-- A tick counted by a detector in QUALIFYING (R94). A count of Q says that the tick which completes the
qualification has come and that QUALIFICATION_COMPLETE has not been taken yet. -/
def Detector.countTick (d : Detector) : Detector :=
  match d.state with
  | .qualifying _ => if d.count < d.cfg.qual.toNat then { d with count := d.count + 1 } else d
  | _ => d

/-- QUALIFICATION_COMPLETE: the detection event, for a detector in QUALIFYING whose count has reached Q; an
event that finds nothing to complete does nothing (R94, R95). -/
def State.qualificationComplete (s : State) (n : Fin 8) : State :=
  let d := s.det n
  match d.state with
  | .qualifying c => if d.count = d.cfg.qual.toNat then s.detect n c else s
  | _ => s

/-- LOCKOUT_END: the advance that reaches the end position returns the detector to WAITING (R97). -/
def State.lockoutEnd (s : State) (n : Fin 8) : State :=
  let d := s.det n
  if d.state = .lockout ∧ reached (s.pos d.cfg.lockAxis) d.lockoutEnd = true then
    s.setDet n { d with state := .waiting }
  else s

/-! ### Packets (R99 to R101) -/

/-- CONFIG_DETECTOR (R99). -/
def State.configDetector (s : State) (n : Fin 8) (cfg : DetectorConfig) : State :=
  let d := s.det n
  if d.state = .disabled then s.setDet n { d with cfg := cfg }
  else s.offer (cmdRefusedReport .configDetector .busy 0 (num n.val) 0 0)

/-- ENABLE on one detector (R100). -/
def State.enableDetector (s : State) (n : Fin 8) : State :=
  let d := s.det n
  if d.state = .disabled then s.setDet n { d with state := .waiting } else s

/-- DISABLE on one detector (R101). -/
def State.disableDetector (s : State) (n : Fin 8) : State :=
  s.setDet n { s.det n with state := .disabled }

/-- An action taken by each masked detector, each for itself (R100). -/
def State.forDetectors (s : State) (mask : ByteField) (act : State → Fin 8 → State) : State :=
  allDetectors.foldl (fun s n => if mask.getLsbD n.val then act s n else s) s

/-! ### Backward changes and engine reset (R98, R103) -/

/-- A backward change of axis `ax` to `p`, announced to a detector (R98). -/
def Detector.backward (ax : Axis) (p : Pos) (d : Detector) : Detector :=
  if d.state = .lockout ∧ d.cfg.lockAxis = ax then { d with lockoutEnd := keepAhead p d.lockoutEnd } else d

/-- A detector at engine reset (R103). -/
def Detector.engineReset (d : Detector) : Detector :=
  match d.state with
  | .disabled => d
  | .waiting => d
  | .qualifying _ => { d with state := .waiting }
  | .lockout => { d with state := .waiting }

end Sys2Proof.Machine
end

