-- ==== Sys2Proof/Machine/Recipes.lean ====
section
/-!
DEFINITION. The Recipe Store (chapter 4): writing the STAGING bank, copying, validation and switching.
-/
namespace Sys2Proof.Machine

/-- The STAGING bank replaced (R75). -/
def State.setStaging (s : State) (b : Bank) : State := s.setBank s.active.other b

/-- WRITE_RECIPE (R78). -/
def State.writeRecipe (s : State) (r : Fin 16) (h : RecipeHeader) : State :=
  s.setStaging { s.stagingBank with headers := s.stagingBank.headers.set r h }

/-- Steps written one after another from an index on, each with its written flag set (R79). -/
def writeStepsAt (pool : Vector StoredStep 128) (first : Nat) : List Step → Vector StoredStep 128
  | [] => pool
  | st :: rest =>
    writeStepsAt (pool.set (first % 128) { step := st, written := true } (Nat.mod_lt _ (by decide)))
      (first + 1) rest

/-- WRITE_STEPS (R79). -/
def State.writeSteps (s : State) (first : Fin 128) (steps : List Step) : State :=
  s.setStaging { s.stagingBank with steps := writeStepsAt s.stagingBank.steps first.val steps }

/-- COPY_BANK (R80). -/
def State.copyBank (s : State) : State := s.setStaging s.activeBank

/-! ### Validation and the switch (R81 to R83) -/

/-- What a recipe fails validation on (R81). -/
inductive BankCheck where
  | unwrittenStep (index : Fin 128)
  | noPulse
  deriving DecidableEq, Repr

/-- The bank-check code of 11.4.2. -/
def BankCheck.code : BankCheck → Nat
  | .unwrittenStep _ => 1
  | .noPulse => 2

/-- The step index a refusal carries: the lowest unwritten one, or 0 (11.4.3). -/
def BankCheck.stepIndex : BankCheck → Word
  | .unwrittenStep i => num i.val
  | .noPulse => 0

/-- The two checks on one recipe of a bank; an undefined recipe is passed over (R81). -/
def Bank.checkRecipe (b : Bank) (h : RecipeHeader) : Option BankCheck :=
  if h.count = 0 then none
  else
    match (stepIndexes h).find? fun i => !b.steps[i].written with
    | some i => some (.unwrittenStep i)
    | none =>
      if (stepIndexes h).any fun i => decide (b.steps[i].step.action = .pulse) then none
      else some .noPulse

/-- The recipes in the order 0 to 15 (R81). -/
def allRecipes : List (Fin 16) := List.finRange 16

/-- Validation of a bank: the first recipe that fails, with what it failed on (R81). -/
def Bank.validate (b : Bank) : Option (Fin 16 × BankCheck) :=
  allRecipes.findSome? fun r => (b.checkRecipe b.headers[r]).map fun c => (r, c)

/-- SWITCH_BANK (R81 to R83). -/
def State.switchBank (s : State) : State :=
  match s.stagingBank.validate with
  | some (r, c) =>
    s.offer (cmdRefusedReport .switchBank .invalidBank c.code (num r.val) c.stepIndex 0)
  | none => { s with active := s.active.other }.offer (bankSwitchedReport s.active.other s.t)

end Sys2Proof.Machine
end

