-- ==== Sys2Proof/Machine/Ring.lean ====
section
/-!
DEFINITION. The command ring and the packet parser (chapter 9): the indexes, the parser's states, the taking of
headers and packets, halts, fences, and the parser's own packets.
-/
namespace Sys2Proof.Machine

/-! ### The ring's bus events (R164 to R166) -/

/-- A write to RING_DATA (R164, R157). -/
def State.ringData (s : State) (w : Word) : State :=
  if s.ring.free = 0 then { s with irq := { s.irq with overrun := true } }
  else
    { s with ring :=
        { s.ring with words := Memory.write s.ring.words s.ring.fill.toNat w, fill := s.ring.fill + 1 } }

/-- A write to RING_PUBLISH (R165). -/
def State.ringPublish (s : State) : State := { s with ring := { s.ring with publish := s.ring.fill } }

/-- A write to RING_WITHDRAW (R166). -/
def State.ringWithdraw (s : State) : State := { s with ring := { s.ring with fill := s.ring.publish } }

/-! ### The parser's state -/

/-- The parser's state replaced. -/
def State.setParser (s : State) (st : ParserState) : State :=
  { s with parser := { s.parser with state := st } }

/-- Read moved forward by a number of words, 1,024 becoming 0 (R173). -/
def State.advanceRead (s : State) (n : Nat) : State :=
  { s with ring := { s.ring with read := s.ring.read + BitVec.ofNat 10 n } }

/-- Read advanced past a packet with `len` body words, and the parser ready for the next (R173, R183). -/
def State.passPacket (s : State) (len : Nat) : State :=
  (s.advanceRead (1 + len)).setParser (.running none)

/-- A resync is accepted: the parser STOPPED or HALTED, and the value on the path from read to publish (R168). -/
def State.resyncAccepted (s : State) (w : Word) : Bool :=
  decide (s.parser.state = .stopped ∨ s.parser.state = .halted) && decide (w.toNat < Config.ringWords) &&
    decide ((BitVec.ofNat 10 w.toNat - s.ring.read).toNat ≤ s.ring.published)

/-- A write to RING_READ (R168). -/
def State.resync (s : State) (w : Word) : State :=
  if s.resyncAccepted w then
    { s with ring := { s.ring with read := BitVec.ofNat 10 w.toNat } }.setParser .stopped
  else s

/-- START_PARSER (R177). -/
def State.startParser (s : State) : State :=
  match s.parser.state with
  | .stopped => s.setParser (.running none)
  | .halted => s.setParser (.running none)
  | .running _ => s
  | .fenced _ => s

/-- STOP_PARSER (R178). -/
def State.stopParser (s : State) : State :=
  match s.parser.state with
  | .running _ => s.setParser .stopped
  | .fenced _ => s.setParser .stopped
  | .stopped => s
  | .halted => s

/-- RING_RESET (R179): the words keep their contents. -/
def State.ringReset (s : State) : State :=
  { s with
    ring := { s.ring with read := 0, publish := 0, fill := 0 }
    parser := { state := .stopped, haltCode := .none, haltIndex := 0 } }

/-- A format error: the parser halts with read on the packet and offers CMD_HALT (R175). -/
def State.halt (s : State) (code : HaltCode) : State :=
  { s with parser := { state := .halted, haltCode := code, haltIndex := s.ring.read } }.offer
    (cmdHaltReport s.ring.read code (s.ringWord s.ring.read) s.t)

/-- PARSER_TAKE_HEADER: a RUNNING parser that is not already waiting takes the published word at read as a
header; a header that passes its checks is kept (R171, R172). -/
def State.takeHeader (s : State) : State :=
  match s.parser.state with
  | .running none =>
    if 0 < s.ring.published then
      let w := s.ringWord s.ring.read
      match decodeHeader w s.ring.read with
      | .ok _ => s.setParser (.running (some w))
      | .error code => s.halt code
    else s
  | _ => s

/-! ### Taking a complete packet (R172, R173) -/

/-- The body words of the packet at read. -/
def State.bodyWords (s : State) (len : Nat) : List Word :=
  (List.range len).map fun k => s.ringWord (s.ring.read + 1 + BitVec.ofNat 10 k)

/-- The kind and length of the packet that stands complete at read with its header checks passed (R172). -/
def State.completePacket (s : State) : Option (PacketKind × Nat) :=
  match s.parser.state with
  | .running (some w) =>
    match headerOf w with
    | some (k, len) => if 1 + len ≤ s.ring.published then some (k, len) else none
    | none => none
  | _ => none

/-- The event in which the parser makes the field checks of a complete packet of one kind (R173): a packet that
fails one halts with BAD_FIELD, and one that passes is given to `take` with its length. Without such a packet at
read there is no such event, and nothing happens. -/
def State.onPacket (s : State) (kind : PacketKind) (take : Nat → Packet → State) : State :=
  match s.completePacket with
  | some (k, len) =>
    if k = kind then
      match decodeBody k (s.bodyWords len) with
      | some p => take len p
      | none => s.halt .badField
    else s
  | none => s

/-! ### Fences (R182 to R186) -/

/-- The condition of a fence against the part as it stands (R182). -/
def State.fenceHolds (s : State) (f : FenceFields) : Bool :=
  match f.cond with
  | .axisReached =>
    match f.axis with
    | .one ax => reached (s.pos ax) f.position
    | .all => false
  | .itemsEmpty => decide (s.itemsInUse = 0)
  | .scheduleEmpty =>
    match f.axis with
    | .one ax => (s.list ax).isEmpty
    | .all => s.listsEmpty
  | .linesIdle => allLines.all fun n => !(f.mask.getLsbD n.val && (s.line n).busy)

/-- The expiry tick of a fence taken at `t` (R182). -/
def FenceRecord.of (f : FenceFields) (t : Pos) : FenceRecord :=
  { fields := f, expiry := if f.timeout = 0 then none else some (t + f.timeout.setWidth 32) }

/-- A FENCE taken by the parser: it passes at once or holds the parser (R182). -/
def State.takeFence (s : State) (f : FenceFields) (len : Nat) : State :=
  if s.fenceHolds f then s.passPacket len else s.setParser (.fenced (.of f s.t))

/-- The length of a FENCE packet's body (11.3). -/
def fenceLength : Nat := 5

/-- FENCE_NOTICE: the FENCED parser tests its condition again (R183, R184). -/
def State.fenceNotice (s : State) : State :=
  match s.parser.state with
  | .fenced r => if s.fenceHolds r.fields then s.passPacket fenceLength else s
  | _ => s

/-- FENCE_TIMEOUT: the advance of T to the expiry tick. A fence on AXIS_REACHED for T whose position is reached
by the same advance passes without a report; any other fence offers FENCE_TIMEOUT and ends (R185). -/
def State.fenceTimeout (s : State) : State :=
  match s.parser.state with
  | .fenced r =>
    if r.expiry = some s.t then
      if r.fields.cond = .axisReached ∧ r.fields.axis = .one .t ∧ s.fenceHolds r.fields = true then
        s.passPacket fenceLength
      else (s.offer (fenceTimeoutReport s.ring.read r.fields s.t)).passPacket fenceLength
    else s
  | _ => s

/-- A backward change of axis `ax` to `p`, announced to the parser (R184). -/
def Parser.backward (ax : Axis) (p : Pos) (x : Parser) : Parser :=
  match x.state with
  | .fenced r =>
    if r.fields.cond = .axisReached ∧ r.fields.axis = .one ax then
      { x with state :=
          .fenced { r with fields := { r.fields with position := keepAhead p r.fields.position } } }
    else x
  | _ => x

/-- A FENCED parser waits on AXIS_REACHED for this axis (R13). -/
def Parser.fencedOn (ax : Axis) (x : Parser) : Bool :=
  match x.state with
  | .fenced r => decide (r.fields.cond = .axisReached ∧ r.fields.axis = .one ax)
  | _ => false

end Sys2Proof.Machine
end

