-- ==== Sys2Proof/Machine/Axes.lean ====
section
/-!
DEFINITION. The Axis Unit (chapter 1): quadrature decoding, the divider, the direction policy, announcements and
what a backward change does to the blocks that wait on the axis, CONFIG_AXIS and PRESET_AXIS; and the tick.

An announcement is an event of each block that receives it (R4), and each of these events is a step of its own
(SCHEDULE_RELEASE_PASS, PULSE_END, ...). Such an event is OWED from the advance until it is taken, and it is owed
exactly while the block's own record is due at the present position, so the state needs no further mark. The
sender's order of the commands is the order in which events that come together are taken. An event still owed
when its axis is about to move again is taken first, in the order of `settleAxis` and `settleAll`
(DESIGN CHOICE, notes/assumptions/2.md).
-/
namespace Sys2Proof.Machine

/-! ### Events owed to the blocks -/

/-- One event tried on each of the lines in order. -/
def State.eachLine (s : State) (f : State → Fin 16 → State) : State := allLines.foldl f s

/-- One event tried on each of the detectors in order. -/
def State.eachDetector (s : State) (f : State → Fin 8 → State) : State := allDetectors.foldl f s

/-- The end of a pulse measured on one encoder axis. -/
def State.pulseEndOn (enc : Enc) (s : State) (n : Fin 16) : State :=
  match (s.line n).state with
  | .active u => if u.measure = .distance enc then s.pulseEnd n else s
  | _ => s

/-- The end of a lockout measured on one axis. -/
def State.lockoutEndOn (ax : Axis) (s : State) (n : Fin 8) : State :=
  if (s.det n).cfg.lockAxis = ax then s.lockoutEnd n else s

/-- The events owed for the last change of an encoder axis, each taken once (R4). -/
def State.settleAxis (s : State) (enc : Enc) : State :=
  let s1 := s.passEvent enc.axis
  let s2 := s1.eachDetector (State.lockoutEndOn enc.axis)
  let s3 := s2.eachLine (State.pulseEndOn enc)
  if s3.parser.fencedOn enc.axis then s3.fenceNotice else s3

/-- Every event owed to a block of the part, each taken once, in the order in which the opcode table lists the
steps (R4). -/
def State.settleAll (s : State) : State :=
  let s1 := ((s.passEvent .t).passEvent .e1).passEvent .e2
  let s2 := s1.eachDetector State.qualificationComplete
  let s3 := s2.eachDetector State.lockoutEnd
  let s4 := s3.eachLine State.pulseEnd
  let s5 := s4.eachLine State.maxOnExpiry
  let s6 := s5.eachLine State.recoveryEnd
  let s7 := s6.eachLine State.monitorSample
  s7.fenceNotice.fenceTimeout

/-! ### The tick (R3) -/

/-- T advances by one; the detectors in QUALIFYING count the tick (R3, R94). -/
def State.advanceT (s : State) (fb : Word) : State :=
  { s with t := s.t + 1, fb := fb }.mapDets Detector.countTick

/-- TICK: the events still owed, then the advance of T. The events that this advance owes to the blocks are
steps of their own. -/
def State.tick (s : State) (fb : Word) : State := s.settleAll.advanceT fb

/-! ### Quadrature decoding (R6) -/

/-- The classes of a transition (R6). -/
inductive Transition where
  | forward | backward | error
  deriving DecidableEq, Repr

/-- The pair that follows a pair going forward with invert off (R6). -/
def nextPair : Phases → Phases
  | ⟨false, false⟩ => ⟨true, false⟩
  | ⟨true, false⟩ => ⟨true, true⟩
  | ⟨true, true⟩ => ⟨false, true⟩
  | ⟨false, true⟩ => ⟨false, false⟩

/-- FORWARD and BACKWARD exchanged, as the invert setting does (R6). -/
def Transition.exchange : Transition → Transition
  | .forward => .backward
  | .backward => .forward
  | .error => .error

/-- The class of the step from the last pair to a new, different one (R6). -/
def classify (last new : Phases) (invert : Bool) : Transition :=
  let c : Transition :=
    if new = nextPair last then .forward
    else if last = nextPair new then .backward
    else .error
  if invert then c.exchange else c

/-! ### The divider (R8) -/

/-- What a count makes of the residue, with the unit it makes, if any (R8). -/
def countForward (d : Nat) (r : Int) : Int × Bool :=
  if (d : Int) ≤ r + 1 then (0, true) else (r + 1, false)

/-- What a backward count makes of the residue, with the unit it makes, if any (R8). -/
def countBackward (d : Nat) (r : Int) : Int × Bool :=
  if r - 1 ≤ -(d : Int) then (0, true) else (r - 1, false)

/-! ### The direction policy and changes of position (R9 to R11, R23, R98, R119, R184) -/

/-- An advance of an encoder axis (R9, R10). The events owed for the axis's last change come first. -/
def State.advance (s : State) (enc : Enc) : State :=
  let s1 := s.settleAxis enc
  let a := s1.encAxis enc
  s1.setEncAxis enc { a with pos := a.pos + 1 }

/-- A backward change of axis `ax` to `p`, announced to a line with a DISTANCE pulse on it (R119). -/
def Line.backward (enc : Enc) (p : Pos) (l : Line) : Line :=
  match l.state with
  | .active u =>
    if u.measure = .distance enc then { l with state := .active { u with endPos := keepAhead p u.endPos } }
    else l
  | _ => l

/-- A backward change of an encoder axis: the position lowered by one, entries that it carries past half the
circle expired, and the ends that lockouts, pulses and a fence wait for kept ahead (R9, R23, R98, R119, R184).
The events owed for the axis's last change come first; the notices of an expiry come last (R43, R200). -/
def State.backwardChange (s : State) (enc : Enc) : State :=
  let s1 := s.settleAxis enc
  let a := s1.encAxis enc
  let p := a.pos - 1
  let s2 := s1.setEncAxis enc { a with pos := p }
  let s3 := (s2.mapDets (Detector.backward enc.axis p)).mapLines (Line.backward enc p)
  let s4 := { s3 with parser := s3.parser.backward enc.axis p }
  (s4.expire enc.axis a.pos).engineNotice s1

/-- A forward unit (R9, R10, R11). -/
def State.forwardUnit (s : State) (enc : Enc) : State :=
  let a := s.encAxis enc
  match a.cfg.policy with
  | .bidirectional => s.advance enc
  | .forwardOnly =>
    if a.debt = 0 then s.advance enc
    else
      s.setEncAxis enc
        { a with
          debt := a.debt - 1
          debtLatch := if a.debt = Config.debtLimit then false else a.debtLatch }

/-- A backward unit (R9, R10, R11). -/
def State.backwardUnit (s : State) (enc : Enc) : State :=
  let a := s.encAxis enc
  match a.cfg.policy with
  | .bidirectional => s.backwardChange enc
  | .forwardOnly =>
    if a.debt < Config.debtLimit then s.setEncAxis enc { a with debt := a.debt + 1 }
    else if a.debtLatch then s
    else (s.setEncAxis enc { a with debtLatch := true }).offer (debtLimitReport enc a.pos)

/-- A transition taken in COUNTING (R6, R8, R12). -/
def State.takeTransition (s : State) (enc : Enc) (ph : Phases) : State :=
  let a := s.encAxis enc
  match classify a.phases ph a.cfg.invert with
  | .error =>
    let s1 := s.setEncAxis enc { a with phases := ph, quadError := true }
    if a.quadError then s1 else s1.offer (quadErrorReport enc a.pos)
  | .forward =>
    let c := countForward a.cfg.divider a.residue
    let s1 := s.setEncAxis enc { a with phases := ph, quadError := false, residue := c.1 }
    if c.2 then s1.forwardUnit enc else s1
  | .backward =>
    let c := countBackward a.cfg.divider a.residue
    let s1 := s.setEncAxis enc { a with phases := ph, quadError := false, residue := c.1 }
    if c.2 then s1.backwardUnit enc else s1

/-- QUAD_TRANSITION: a change of the phase inputs to `ph`. A pair equal to the last one is no transition; in
HALTED the pair is followed and nothing else happens (R6, R7). -/
def State.quadTransition (s : State) (enc : Enc) (ph : Phases) : State :=
  let a := s.encAxis enc
  if ph = a.phases then s
  else
    match a.cfg.mode with
    | .halted => s.setEncAxis enc { a with phases := ph }
    | .counting => s.takeTransition enc ph

/-! ### An axis in use (R13) -/

/-- A line's ACTIVE pulse is measured in units of this encoder axis (R13). -/
def Line.holds (enc : Enc) (l : Line) : Bool :=
  match l.state with
  | .active u => decide (u.measure = .distance enc)
  | _ => false

/-- A detector is in LOCKOUT measured on this axis (R13). -/
def Detector.holds (ax : Axis) (d : Detector) : Bool :=
  decide (d.state = .lockout) && decide (d.cfg.lockAxis = ax)

/-- An encoder axis is in use (R13). -/
def State.inUse (s : State) (enc : Enc) : Bool :=
  !(s.list enc.axis).isEmpty || s.lines.toList.any (Line.holds enc) ||
    s.dets.toList.any (Detector.holds enc.axis) || s.parser.fencedOn enc.axis

/-! ### CONFIG_AXIS and PRESET_AXIS (R14, R15) -/

/-- The packet asks no more than to enable a HALTED axis (R14, second row). -/
def onlyEnables (old new : AxisSettings) : Bool :=
  decide (old.mode = .halted) && decide (new = { old with mode := .counting })

/-- The axis after a CONFIG_AXIS that takes effect (R14). -/
def EncAxis.configured (a : EncAxis) (c : AxisSettings) : EncAxis :=
  { a with cfg := c, residue := 0, debt := 0, debtLatch := false, quadError := false }

/-- CONFIG_AXIS (R14). -/
def State.configAxis (s : State) (enc : Enc) (c : AxisSettings) : State :=
  let a := s.encAxis enc
  if c = a.cfg then s
  else if onlyEnables a.cfg c ∨ s.inUse enc = false then s.setEncAxis enc (a.configured c)
  else s.offer (cmdRefusedReport .configAxis .busy 0 (num enc.code) 0 0)

/-- PRESET_AXIS (R15). -/
def State.presetAxis (s : State) (enc : Enc) (p : Pos) : State :=
  let a := s.encAxis enc
  if s.inUse enc then s.offer (cmdRefusedReport .presetAxis .busy 0 (num enc.code) 0 0)
  else s.setEncAxis enc { a with pos := p, residue := 0, debt := 0, debtLatch := false }

/-! ### Engine reset (R16) -/

/-- An encoder axis at engine reset (R16). -/
def EncAxis.engineReset (a : EncAxis) : EncAxis := { a with residue := 0, quadError := false }

end Sys2Proof.Machine
end

