-- ==== Sys2Proof/Machine/Flags.lean ====
section
/-!
DEFINITION. What the host sees: the seven interrupt causes and IRQ_N (8.4), the multi-field status registers
(11.2) and the read value of every register of the window (11.1).
-/
namespace Sys2Proof.Machine

/-! ### Interrupt causes (R155 to R159) -/

/-- REPORT_PENDING (R155). -/
def State.reportPending (s : State) : Bool := decide (0 < s.queue.records.length)

/-- REPORT_HIGH (R155). -/
def State.reportHigh (s : State) : Bool := decide (s.irq.watermark ≤ s.queue.records.length)

/-- FAULT_PENDING (R155). -/
def State.faultPending (s : State) : Bool := decide (0 < s.queue.faultCount)

/-- RING_SPACE (R155). -/
def State.ringSpace (s : State) : Bool := decide (s.irq.spaceLevel ≤ s.ring.free)

/-- PARSER_HALTED (R155). -/
def State.parserHalted (s : State) : Bool := decide (s.parser.state = .halted)

/-- QUIESCED (R155). -/
def State.engineQuiesced (s : State) : Bool := decide (s.engine = .quiesced)

/-- The seven causes as IRQ_STATUS shows them, bit 0 REPORT_PENDING to bit 6 RING_OVERRUN (R155, 11.2). -/
def State.causes (s : State) : BitVec 7 :=
  BitVec.ofBool s.irq.overrun ++ BitVec.ofBool s.engineQuiesced ++ BitVec.ofBool s.parserHalted ++
    BitVec.ofBool s.ringSpace ++ BitVec.ofBool s.faultPending ++ BitVec.ofBool s.reportHigh ++
    BitVec.ofBool s.reportPending

/-- The level of IRQ_N: low while a cause is present and enabled (R158). -/
def State.irqN (s : State) : Bool := decide (s.causes &&& s.irq.enable = 0)

/-! ### Status registers (11.2) -/

/-- The engine-state code (11.2). -/
def EngineState.code : EngineState → Nat
  | .run => 0
  | .quiescing => 1
  | .quiesced => 2

/-- The parser-state code (11.2). -/
def ParserState.code : ParserState → Nat
  | .stopped => 0
  | .running _ => 1
  | .fenced _ => 2
  | .halted => 3

/-- The detector-state code (11.2). -/
def DetectorState.code : DetectorState → Nat
  | .disabled => 0
  | .waiting => 1
  | .qualifying _ => 2
  | .lockout => 3

/-- At least one line is in FAULTED (R193). -/
def State.anyFaulted (s : State) : Bool := s.lines.toList.any fun l => decide (l.state = .faulted)

/-- STATE (R193). -/
def State.stateWord (s : State) : Word :=
  num (s.engine.code + 16 * s.parser.state.code + 256 * s.active.code + 4096 * flagCode s.anyFaulted)

/-- LINE_STATUS of a line (R194). -/
def Line.status (l : Line) : Word :=
  num (l.state.code + 8 * flagCode l.slot.isSome + 16 * l.mismatch + 128 * flagCode l.lastSense +
    256 * l.lastFault.code)

/-- DET_STATUS: two bits for each detector, DET0 lowest (R195). -/
def State.detStatus (s : State) : Word :=
  num (s.dets.toList.foldr (fun d n => d.state.code + 4 * n) 0)

/-- PARSER_DIAG (R196). -/
def Parser.diag (p : Parser) : Word := num (p.haltIndex.toNat + 4096 * p.haltCode.code)

/-- AXIS_DEBT of the selected axis: 0 for T (R192). -/
def State.debtWord (s : State) : Word :=
  match s.bus.posSelect with
  | .t => 0
  | .e1 => num s.enc1.debt
  | .e2 => num s.enc2.debt

/-! ### Reads of the window (R189, R190, 11.1) -/

/-- The word a read at an offset returns. The five registers of access W return 0 (R189). A read has no side
effect but that of POS_LOW, which is the step POS_LOW_READ (R190). -/
def State.readRegister (s : State) (offset : BitVec 5) : Word :=
  match offset.toNat with
  | 0x01 => s.stateWord
  | 0x05 => s.ring.read.setWidth 16
  | 0x06 => s.ring.fill.setWidth 16
  | 0x07 => num s.ring.free
  | 0x08 => num s.irq.spaceLevel
  | 0x09 => s.causes.setWidth 16
  | 0x0A => s.irq.enable.setWidth 16
  | 0x0B => num s.queue.records.length
  | 0x0C => num s.irq.watermark
  | 0x0E => s.queue.headWord 0
  | 0x0F => s.queue.headWord 1
  | 0x10 => s.queue.headWord 2
  | 0x11 => s.queue.headWord 3
  | 0x12 => s.queue.headWord 4
  | 0x13 => s.queue.headWord 5
  | 0x14 => s.queue.headWord 6
  | 0x15 => s.queue.headWord 7
  | 0x16 => num s.bus.posSelect.code
  | 0x17 => lowHalf (s.pos s.bus.posSelect)
  | 0x18 => s.bus.hold
  | 0x19 => num s.itemsInUse
  | 0x1A => num s.freeCount
  | 0x1B => num s.bus.lineSelect.val
  | 0x1C => (s.line s.bus.lineSelect).status
  | 0x1D => s.detStatus
  | 0x1E => s.debtWord
  | 0x1F => s.parser.diag
  | _ => 0

end Sys2Proof.Machine
end

