-- ==== Sys2Proof/Machine/Operands.lean ====
section
/-!
DEFINITION. The operands of the bus writes: the command codes of CMD and the ranges of the four registers that
hold a number (R159, R191, R194, R197). `none` is a value that the register ignores.
-/
namespace Sys2Proof.Machine

/-- The commands of CMD (R197). -/
inductive Command where
  | startParser | stopParser | ringReset | quiesce | resume | engineReset
  deriving DecidableEq, Repr

/-- The command codes of CMD (11.2); any other value is no command. -/
def commandOf (w : Word) : Option Command :=
  match w.toNat with
  | 1 => some .startParser
  | 2 => some .stopParser
  | 3 => some .ringReset
  | 4 => some .quiesce
  | 5 => some .resume
  | 6 => some .engineReset
  | _ => none

/-- A value of REPORT_WATERMARK in range: 1 to 64, all sixteen bits tested (R159, R189). -/
def watermarkOf (w : Word) : Option Nat :=
  if 1 ≤ w.toNat ∧ w.toNat ≤ 64 then some w.toNat else none

/-- A value of RING_SPACE_LEVEL in range: 0 to 1,023 (R159). -/
def spaceLevelOf (w : Word) : Option Nat := if w.toNat < 1024 then some w.toNat else none

/-- A value of POS_SELECT in range: 0 T, 1 E1, 2 E2 (R191). -/
def posSelectOf (w : Word) : Option Axis := decodeAxis w.toNat

/-- A value of LINE_SELECT in range: 0 to 15 (R194). -/
def lineSelectOf (w : Word) : Option (Fin 16) := decodeFin 16 w.toNat

end Sys2Proof.Machine
end

