-- ==== Sys2Proof/Machine/Engine.lean ====
section
/-!
DEFINITION. Engine Control (chapter 10) and the two resets: QUIESCE, RESUME, ENGINE_RESET and HARDWARE_RESET, and
the three commands to the parser, which come through the same register.
-/
namespace Sys2Proof.Machine

/-- QUIESCE in the engine's present state (R199). -/
def State.quiesce (s : State) : State :=
  match s.engine with
  | .run => if s.isEmpty then s.enterQuiesced else { s with engine := .quiescing }
  | .quiescing => s
  | .quiesced => s

/-- RESUME (R201). -/
def State.resume (s : State) : State := { s with engine := .run }

/-- ENGINE_RESET: one event that reaches every block (R203 and the rules its table names). -/
def State.engineReset (s : State) : State :=
  let s1 := ((s.mapSlots fun x => { x with item := none }).mapDets Detector.engineReset).mapLines
    (Line.engineReset s.t)
  { s1 with
    enc1 := s.enc1.engineReset
    enc2 := s.enc2.engineReset
    tList := []
    e1List := []
    e2List := []
    free := List.range Config.entryCount
    queue := ReportQueue.reset
    irq := { s.irq with overrun := false }
    ring := { s.ring with read := 0, publish := 0, fill := 0 }
    parser := Parser.reset
    engine := .run }

/-- HARDWARE_RESET: RESET_N low and its release, with the levels the inputs hold at release (R205). The queue of
commands is the model's own and stays. -/
def State.hardwareReset (s : State) (p1 p2 : Phases) (di : ByteField) (fb : Word) : State :=
  { State.afterReset p1 p2 di fb with pending := s.pending }

/-! ### The steps -/

/-- HARDWARE_RESET (R205). -/
def execHardwareReset (p1 p2 : Phases) (di : ByteField) (fb : Word) (s : State) :
    Host.Outcome State Fault Refusal := .next (s.hardwareReset p1 p2 di fb)

/-- START_PARSER (R177). -/
def execStartParser (s : State) : Host.Outcome State Fault Refusal := .next s.startParser

/-- STOP_PARSER (R178). -/
def execStopParser (s : State) : Host.Outcome State Fault Refusal := .next s.stopParser

/-- RING_RESET (R179). -/
def execRingReset (s : State) : Host.Outcome State Fault Refusal := .next s.ringReset

/-- QUIESCE (R199). -/
def execQuiesce (s : State) : Host.Outcome State Fault Refusal := .next s.quiesce

/-- RESUME (R201). -/
def execResume (s : State) : Host.Outcome State Fault Refusal := .next s.resume

/-- ENGINE_RESET (R203). -/
def execEngineReset (s : State) : Host.Outcome State Fault Refusal := .next s.engineReset

end Sys2Proof.Machine
end

