-- ==== Sys2Proof/Machine/Registers.lean ====
section
/-!
DEFINITION. The register window (chapter 10): the writes and the one read with an effect, each a step, and the
decoding of a bus write by its offset (R189, R197).
-/
namespace Sys2Proof.Machine

/-- A write to REPORT_POP (R153). -/
def State.reportPop (s : State) : State := { s with queue := s.queue.pop }

/-- A write to IRQ_STATUS: the RING_OVERRUN bit clears that cause (R157); every other bit is ignored (R156). -/
def State.irqStatusWrite (s : State) (w : Word) : State :=
  if w.getLsbD 6 then { s with irq := { s.irq with overrun := false } } else s

/-- A write to IRQ_ENABLE replaces all seven enables (R158). -/
def State.irqEnableWrite (s : State) (w : Word) : State :=
  { s with irq := { s.irq with enable := w.setWidth 7 } }

/-- A write to REPORT_WATERMARK (R159). -/
def State.watermarkWrite (s : State) (w : Word) : State :=
  match watermarkOf w with
  | some n => { s with irq := { s.irq with watermark := n } }
  | none => s

/-- A write to RING_SPACE_LEVEL (R159). -/
def State.spaceLevelWrite (s : State) (w : Word) : State :=
  match spaceLevelOf w with
  | some n => { s with irq := { s.irq with spaceLevel := n } }
  | none => s

/-- A write to POS_SELECT (R191). -/
def State.posSelectWrite (s : State) (w : Word) : State :=
  match posSelectOf w with
  | some ax => { s with bus := { s.bus with posSelect := ax } }
  | none => s

/-- A write to LINE_SELECT (R194). -/
def State.lineSelectWrite (s : State) (w : Word) : State :=
  match lineSelectOf w with
  | some n => { s with bus := { s.bus with lineSelect := n } }
  | none => s

/-- A read of POS_LOW: the low half of the selected position on D0–D15, and its high half into the hold word
(R191). -/
def State.posLowRead (s : State) : State :=
  let p := s.pos s.bus.posSelect
  { s with bus := { s.bus with data := lowHalf p, hold := highHalf p } }

/-- A command code taken by its owner (R197). -/
def State.command (s : State) : Command → State
  | .startParser => s.startParser
  | .stopParser => s.stopParser
  | .ringReset => s.ringReset
  | .quiesce => s.quiesce
  | .resume => s.resume
  | .engineReset => s.engineReset

/-- A bus write of a word at an offset, decoded by the window: a write to a register of access R is ignored,
and so is a CMD value that is no code (R189, R197). -/
def State.busWrite (s : State) (offset : BitVec 5) (w : Word) : State :=
  match offset.toNat with
  | 0x00 =>
    match commandOf w with
    | some c => s.command c
    | none => s
  | 0x02 => s.ringData w
  | 0x03 => s.ringPublish
  | 0x04 => s.ringWithdraw
  | 0x05 => s.resync w
  | 0x08 => s.spaceLevelWrite w
  | 0x09 => s.irqStatusWrite w
  | 0x0A => s.irqEnableWrite w
  | 0x0C => s.watermarkWrite w
  | 0x0D => s.reportPop
  | 0x16 => s.posSelectWrite w
  | 0x1B => s.lineSelectWrite w
  | _ => s

/-! ### The steps -/

/-- RING_DATA (R164). -/
def execRingData (w : Word) (s : State) : Host.Outcome State Fault Refusal := .next (s.ringData w)

/-- RING_PUBLISH, of any value (R165). -/
def execRingPublish (_w : Word) (s : State) : Host.Outcome State Fault Refusal := .next s.ringPublish

/-- RING_WITHDRAW, of any value (R166). -/
def execRingWithdraw (_w : Word) (s : State) : Host.Outcome State Fault Refusal := .next s.ringWithdraw

/-- A write to RING_READ (R168). -/
def execResync (w : Word) (s : State) : Host.Outcome State Fault Refusal := .next (s.resync w)

/-- REPORT_POP, of any value (R153). -/
def execReportPop (_w : Word) (s : State) : Host.Outcome State Fault Refusal := .next s.reportPop

/-- IRQ_STATUS written (R157). -/
def execIrqStatusWrite (w : Word) (s : State) : Host.Outcome State Fault Refusal := .next (s.irqStatusWrite w)

/-- IRQ_ENABLE written (R158). -/
def execIrqEnableWrite (w : Word) (s : State) : Host.Outcome State Fault Refusal := .next (s.irqEnableWrite w)

/-- REPORT_WATERMARK written (R159). -/
def execReportWatermarkWrite (w : Word) (s : State) : Host.Outcome State Fault Refusal :=
  .next (s.watermarkWrite w)

/-- RING_SPACE_LEVEL written (R159). -/
def execRingSpaceLevelWrite (w : Word) (s : State) : Host.Outcome State Fault Refusal :=
  .next (s.spaceLevelWrite w)

/-- POS_SELECT written (R191). -/
def execPosSelectWrite (w : Word) (s : State) : Host.Outcome State Fault Refusal := .next (s.posSelectWrite w)

/-- LINE_SELECT written (R194). -/
def execLineSelectWrite (w : Word) (s : State) : Host.Outcome State Fault Refusal := .next (s.lineSelectWrite w)

/-- POS_LOW read (R191). -/
def execPosLowRead (s : State) : Host.Outcome State Fault Refusal := .next s.posLowRead

/-- REGISTER_WRITE_IGNORED: the window's decoding of the write. Every write that R189 and R197 call ignored
leaves the state as it is; those are the well-formed operands (`Sys2Proof.writeIgnored`). -/
def execRegisterWriteIgnored (offset : BitVec 5) (w : Word) (s : State) : Host.Outcome State Fault Refusal :=
  .next (s.busWrite offset w)

end Sys2Proof.Machine
end

