-- ==== Sys2Proof/Machine/Events.lean ====
section
/-!
DEFINITION. The steps that come from the pins and from the blocks' own events (chapter 95): the tick, encoder
transitions, release passes, detector and line events, samples, and the events of the parser.
-/
namespace Sys2Proof.Machine

/-- TICK (R3). -/
def execTick (fb : Word) (s : State) : Host.Outcome State Fault Refusal := .next (s.tick fb)

/-- QUAD_TRANSITION (R6). -/
def execQuadTransition (enc : Enc) (ph : Phases) (s : State) : Host.Outcome State Fault Refusal :=
  .next (s.quadTransition enc ph)

/-- SCHEDULE_RELEASE_PASS (R24). -/
def execScheduleReleasePass (ax : Axis) (s : State) : Host.Outcome State Fault Refusal :=
  .next (s.passEvent ax)

/-- DETECTOR_EDGE (R91). -/
def execDetectorEdge (det : Fin 8) (level : Bool) (s : State) : Host.Outcome State Fault Refusal :=
  .next (s.detectorEdge det level)

/-- QUALIFICATION_COMPLETE (R94). -/
def execQualificationComplete (det : Fin 8) (s : State) : Host.Outcome State Fault Refusal :=
  .next (s.qualificationComplete det)

/-- LOCKOUT_END (R97). -/
def execLockoutEnd (det : Fin 8) (s : State) : Host.Outcome State Fault Refusal := .next (s.lockoutEnd det)

/-- PULSE_END (R118). -/
def execPulseEnd (line : Fin 16) (s : State) : Host.Outcome State Fault Refusal := .next (s.pulseEnd line)

/-- MAX_ON_EXPIRY (R120). -/
def execMaxOnExpiry (line : Fin 16) (s : State) : Host.Outcome State Fault Refusal :=
  .next (s.maxOnExpiry line)

/-- RECOVERY_END (R122). -/
def execRecoveryEnd (line : Fin 16) (s : State) : Host.Outcome State Fault Refusal :=
  .next (s.recoveryEnd line)

/-- MONITOR_SAMPLE (R134). -/
def execMonitorSample (line : Fin 16) (s : State) : Host.Outcome State Fault Refusal :=
  .next (s.monitorSample line)

/-- FENCE_NOTICE (R183). -/
def execFenceNotice (s : State) : Host.Outcome State Fault Refusal := .next s.fenceNotice

/-- FENCE_TIMEOUT (R185). -/
def execFenceTimeout (s : State) : Host.Outcome State Fault Refusal := .next s.fenceTimeout

/-- PARSER_TAKE_HEADER (R171). -/
def execParserTakeHeader (s : State) : Host.Outcome State Fault Refusal := .next s.takeHeader

end Sys2Proof.Machine
end

