-- ==== Sys2Proof/Machine/Packets.lean ====
section
/-!
DEFINITION. The steps in which the parser takes a complete packet (R173): field checks, the owner's work and the
advance of read, in one event. A DETECTOR_CONTROL or LINE_CONTROL packet is taken by the row of its action.
-/
namespace Sys2Proof.Machine

/-- PAD (R180). -/
def execPad (s : State) : Host.Outcome State Fault Refusal :=
  .next (s.onPacket .pad fun len _ => s.passPacket len)

/-- MARK (R181). -/
def execMark (s : State) : Host.Outcome State Fault Refusal :=
  .next (s.onPacket .mark fun len p =>
    match p with
    | .mark tag => (s.offer (markReport tag s.t)).passPacket len
    | _ => s)

/-- FENCE (R182). -/
def execFence (s : State) : Host.Outcome State Fault Refusal :=
  .next (s.onPacket .fence fun len p =>
    match p with
    | .fence f => s.takeFence f len
    | _ => s)

/-- CONFIG_AXIS (R14). -/
def execConfigAxis (s : State) : Host.Outcome State Fault Refusal :=
  .next (s.onPacket .configAxis fun len p =>
    match p with
    | .configAxis enc c => (s.configAxis enc c).passPacket len
    | _ => s)

/-- PRESET_AXIS (R15). -/
def execPresetAxis (s : State) : Host.Outcome State Fault Refusal :=
  .next (s.onPacket .presetAxis fun len p =>
    match p with
    | .presetAxis enc q => (s.presetAxis enc q).passPacket len
    | _ => s)

/-- CONFIG_DETECTOR (R99). -/
def execConfigDetector (s : State) : Host.Outcome State Fault Refusal :=
  .next (s.onPacket .configDetector fun len p =>
    match p with
    | .configDetector n c => (s.configDetector n c).passPacket len
    | _ => s)

/-- DETECTOR_CONTROL ENABLE (R100). -/
def execEnable (s : State) : Host.Outcome State Fault Refusal :=
  .next (s.onPacket .detectorControl fun len p =>
    match p with
    | .detectorControl mask .enable => (s.forDetectors mask State.enableDetector).passPacket len
    | _ => s)

/-- DETECTOR_CONTROL DISABLE (R101). -/
def execDisable (s : State) : Host.Outcome State Fault Refusal :=
  .next (s.onPacket .detectorControl fun len p =>
    match p with
    | .detectorControl mask .disable => (s.forDetectors mask State.disableDetector).passPacket len
    | _ => s)

/-- CONFIG_LINE (R107). -/
def execConfigLine (s : State) : Host.Outcome State Fault Refusal :=
  .next (s.onPacket .configLine fun len p =>
    match p with
    | .configLine n c m => (s.configLine n c m).passPacket len
    | _ => s)

/-- LINE_CONTROL ARM (R109). -/
def execArm (s : State) : Host.Outcome State Fault Refusal :=
  .next (s.onPacket .lineControl fun len p =>
    match p with
    | .lineControl mask .arm => (s.forLines mask State.armLine).passPacket len
    | _ => s)

/-- LINE_CONTROL DISARM (R110). -/
def execDisarm (s : State) : Host.Outcome State Fault Refusal :=
  .next (s.onPacket .lineControl fun len p =>
    match p with
    | .lineControl mask .disarm => (s.forLines mask State.disarmLine).passPacket len
    | _ => s)

/-- LINE_CONTROL CLEAR_FAULT (R111). -/
def execClearFault (s : State) : Host.Outcome State Fault Refusal :=
  .next (s.onPacket .lineControl fun len p =>
    match p with
    | .lineControl mask .clearFault => (s.forLines mask State.clearLineFault).passPacket len
    | _ => s)

/-- LINE_CONTROL FORCE_OFF (R112). -/
def execForceOff (s : State) : Host.Outcome State Fault Refusal :=
  .next (s.onPacket .lineControl fun len p =>
    match p with
    | .lineControl mask .forceOff => (s.forLines mask State.forceLineOff).passPacket len
    | _ => s)

/-- WRITE_RECIPE (R78). -/
def execWriteRecipe (s : State) : Host.Outcome State Fault Refusal :=
  .next (s.onPacket .writeRecipe fun len p =>
    match p with
    | .writeRecipe r h => (s.writeRecipe r h).passPacket len
    | _ => s)

/-- WRITE_STEPS (R79). -/
def execWriteSteps (s : State) : Host.Outcome State Fault Refusal :=
  .next (s.onPacket .writeSteps fun len p =>
    match p with
    | .writeSteps first steps => (s.writeSteps first steps).passPacket len
    | _ => s)

/-- COPY_BANK (R80). -/
def execCopyBank (s : State) : Host.Outcome State Fault Refusal :=
  .next (s.onPacket .copyBank fun len _ => s.copyBank.passPacket len)

/-- SWITCH_BANK (R81). -/
def execSwitchBank (s : State) : Host.Outcome State Fault Refusal :=
  .next (s.onPacket .switchBank fun len _ => s.switchBank.passPacket len)

/-- INJECT_ITEM (R55). -/
def execInjectItem (s : State) : Host.Outcome State Fault Refusal :=
  .next (s.onPacket .injectItem fun len p =>
    match p with
    | .injectItem r backdate tag => (s.injectItem r backdate tag).passPacket len
    | _ => s)

/-- VERDICT (R58). -/
def execVerdict (s : State) : Host.Outcome State Fault Refusal :=
  .next (s.onPacket .verdict fun len p =>
    match p with
    | .verdict h v tag => (s.verdict h v tag).passPacket len
    | _ => s)

/-- CANCEL_ITEM (R68). -/
def execCancelItem (s : State) : Host.Outcome State Fault Refusal :=
  .next (s.onPacket .cancelItem fun len p =>
    match p with
    | .cancelItem h => (s.cancelItem h).passPacket len
    | _ => s)

/-- SCHEDULE_FIRE (R38). -/
def execScheduleFire (s : State) : Host.Outcome State Fault Refusal :=
  .next (s.onPacket .scheduleFire fun len p =>
    match p with
    | .scheduleFire f => (s.scheduleFire f).passPacket len
    | _ => s)

/-- CANCEL_TAG (R40). -/
def execCancelTag (s : State) : Host.Outcome State Fault Refusal :=
  .next (s.onPacket .cancelTag fun len p =>
    match p with
    | .cancelTag tag => (s.cancelTag tag).passPacket len
    | _ => s)

end Sys2Proof.Machine
end

