-- ==== Sys2Proof/Machine/Dispatch.lean ====
section
/-!
DEFINITION. The step of each row of spec/opcode_table.json: one arm per constructor, one direct call of its
meaning.
-/
namespace Sys2Proof.Machine

def exec (i : Instr) (s : State) : Host.Outcome State Fault Refusal :=
  match i with
  | .hardwareReset p q di fb => Sys2Proof.Machine.execHardwareReset p q di fb s
  | .tick fb => Sys2Proof.Machine.execTick fb s
  | .quadTransition enc ph => Sys2Proof.Machine.execQuadTransition enc ph s
  | .scheduleReleasePass ax => Sys2Proof.Machine.execScheduleReleasePass ax s
  | .detectorEdge det level => Sys2Proof.Machine.execDetectorEdge det level s
  | .qualificationComplete det => Sys2Proof.Machine.execQualificationComplete det s
  | .lockoutEnd det => Sys2Proof.Machine.execLockoutEnd det s
  | .pulseEnd line => Sys2Proof.Machine.execPulseEnd line s
  | .maxOnExpiry line => Sys2Proof.Machine.execMaxOnExpiry line s
  | .recoveryEnd line => Sys2Proof.Machine.execRecoveryEnd line s
  | .monitorSample line => Sys2Proof.Machine.execMonitorSample line s
  | .fenceNotice => Sys2Proof.Machine.execFenceNotice s
  | .fenceTimeout => Sys2Proof.Machine.execFenceTimeout s
  | .parserTakeHeader => Sys2Proof.Machine.execParserTakeHeader s
  | .pad => Sys2Proof.Machine.execPad s
  | .mark => Sys2Proof.Machine.execMark s
  | .fence => Sys2Proof.Machine.execFence s
  | .configAxis => Sys2Proof.Machine.execConfigAxis s
  | .presetAxis => Sys2Proof.Machine.execPresetAxis s
  | .configDetector => Sys2Proof.Machine.execConfigDetector s
  | .enable => Sys2Proof.Machine.execEnable s
  | .disable => Sys2Proof.Machine.execDisable s
  | .configLine => Sys2Proof.Machine.execConfigLine s
  | .arm => Sys2Proof.Machine.execArm s
  | .disarm => Sys2Proof.Machine.execDisarm s
  | .clearFault => Sys2Proof.Machine.execClearFault s
  | .forceOff => Sys2Proof.Machine.execForceOff s
  | .writeRecipe => Sys2Proof.Machine.execWriteRecipe s
  | .writeSteps => Sys2Proof.Machine.execWriteSteps s
  | .copyBank => Sys2Proof.Machine.execCopyBank s
  | .switchBank => Sys2Proof.Machine.execSwitchBank s
  | .injectItem => Sys2Proof.Machine.execInjectItem s
  | .verdict => Sys2Proof.Machine.execVerdict s
  | .cancelItem => Sys2Proof.Machine.execCancelItem s
  | .scheduleFire => Sys2Proof.Machine.execScheduleFire s
  | .cancelTag => Sys2Proof.Machine.execCancelTag s
  | .startParser => Sys2Proof.Machine.execStartParser s
  | .stopParser => Sys2Proof.Machine.execStopParser s
  | .ringReset => Sys2Proof.Machine.execRingReset s
  | .quiesce => Sys2Proof.Machine.execQuiesce s
  | .resume => Sys2Proof.Machine.execResume s
  | .engineReset => Sys2Proof.Machine.execEngineReset s
  | .ringData w => Sys2Proof.Machine.execRingData w s
  | .ringPublish w => Sys2Proof.Machine.execRingPublish w s
  | .ringWithdraw w => Sys2Proof.Machine.execRingWithdraw w s
  | .resync w => Sys2Proof.Machine.execResync w s
  | .reportPop w => Sys2Proof.Machine.execReportPop w s
  | .irqStatusWrite w => Sys2Proof.Machine.execIrqStatusWrite w s
  | .irqEnableWrite w => Sys2Proof.Machine.execIrqEnableWrite w s
  | .reportWatermarkWrite w => Sys2Proof.Machine.execReportWatermarkWrite w s
  | .ringSpaceLevelWrite w => Sys2Proof.Machine.execRingSpaceLevelWrite w s
  | .posSelectWrite w => Sys2Proof.Machine.execPosSelectWrite w s
  | .lineSelectWrite w => Sys2Proof.Machine.execLineSelectWrite w s
  | .posLowRead => Sys2Proof.Machine.execPosLowRead s
  | .registerWriteIgnored offset w => Sys2Proof.Machine.execRegisterWriteIgnored offset w s

end Sys2Proof.Machine
end

