-- ==== Sys2Proof/Safety.lean ====
section
/-!
DEFINITION. What counts as a sound state of the part: the relations between fields of the state that the manual
says hold at all times, block by block. Each is stated for the states between two steps. Between an advance and
the release pass it owes, an entry of lead 0 may stand at the head of its list; the manual's stricter bound holds
again after that pass (R21, R24).
-/
namespace Sys2Proof.Machine

/-! ### Axes -/

/-- The bounds of an encoder axis: D in 1 to 16, the residue between -(D - 1) and D - 1, the debt at most
65,535 and 0 under BIDIRECTIONAL (R8, R9, R10, R14). -/
abbrev EncAxis.Sound (a : EncAxis) : Prop :=
  (1 ≤ a.cfg.divider ∧ a.cfg.divider ≤ 16) ∧
  (-(a.cfg.divider : Int) < a.residue ∧ a.residue < a.cfg.divider) ∧
  a.debt ≤ Config.debtLimit ∧ (a.cfg.policy = .bidirectional → a.debt = 0)

/-- Both encoder axes are within their bounds. -/
abbrev State.AxesSound (s : State) : Prop := s.enc1.Sound ∧ s.enc2.Sound

/-! ### Schedule -/

/-- The entry numbers of the three lists, list by list. -/
def State.listedNumbers (s : State) : List Nat :=
  s.tList.map Entry.number ++ s.e1List.map Entry.number ++ s.e2List.map Entry.number

/-- Each of the 256 entries is on the free list or in exactly one axis list, and the free list stands lowest
number first (R18). -/
abbrev State.PoolSound (s : State) : Prop :=
  (s.free ++ s.listedNumbers).Perm (List.range Config.entryCount) ∧ s.free.Pairwise (· < ·)

/-- A list whose axis stands at `p` is ordered by lead, and holds nothing that lies behind (R21). -/
abbrev leadOrdered (p : Pos) (l : List Entry) : Prop :=
  l.Pairwise (fun a b => lead p a.due ≤ lead p b.due) ∧ ∀ e ∈ l, 0 ≤ lead p e.due

/-- The three lists are ordered by lead (R21). -/
abbrev State.ListsOrdered (s : State) : Prop :=
  leadOrdered s.t s.tList ∧ leadOrdered s.enc1.pos s.e1List ∧ leadOrdered s.enc2.pos s.e2List

/-- Every entry of a list carries the list's axis (R18, R19). -/
abbrev State.EntriesPlaced (s : State) : Prop :=
  (∀ e ∈ s.tList, e.axis = .t) ∧ (∀ e ∈ s.e1List, e.axis = .e1) ∧ (∀ e ∈ s.e2List, e.axis = .e2)

/-! ### Items -/

/-- All entries of the three lists. -/
def State.allEntries (s : State) : List Entry := s.tList ++ s.e1List ++ s.e2List

/-- The handle of the item in slot `i`. -/
def State.handleOf (s : State) (i : Fin 64) : Handle := { gen := (s.slot i).gen, slot := i }

/-- The pending count of every item equals the number of its entries in the lists and lies in 1 to 16, and no
entry carries the handle of a FREE slot or a stale generation (R50). -/
abbrev State.ItemsSound (s : State) : Prop :=
  (∀ i : Fin 64, ∀ x ∈ (s.slot i).item,
    x.pending = s.allEntries.countP (Entry.ofItem (s.handleOf i)) ∧ 1 ≤ x.pending ∧ x.pending ≤ 16) ∧
  (∀ e ∈ s.allEntries,
    match e.owner with
    | .item h _ => (s.findItem h).isSome = true
    | .host _ => True)

/-! ### Recipe Store -/

/-- The headers of a bank satisfy first step + step count ≤ 128 and step count ≤ 16 (R76). -/
abbrev Bank.Sound (b : Bank) : Prop := ∀ r : Fin 16, b.headers[r].wf = true

/-- Both banks' headers are in range, and the ACTIVE bank passes validation (R76, R83). -/
abbrev State.BanksSound (s : State) : Prop :=
  s.bank0.Sound ∧ s.bank1.Sound ∧ s.activeBank.validate = none

/-! ### Detectors -/

/-- A detector in QUALIFYING has a Q of 1 or more and has counted at most Q ticks (R92, R94). -/
abbrev Detector.Sound (d : Detector) : Prop :=
  match d.state with
  | .qualifying _ => 1 ≤ d.cfg.qual.toNat ∧ d.count ≤ d.cfg.qual.toNat
  | _ => True

/-- Every detector is sound. -/
abbrev State.DetectorsSound (s : State) : Prop := ∀ n : Fin 8, (s.det n).Sound

/-! ### Lines and monitor -/

/-- A line's pending slot is occupied only under DEFER in ACTIVE or RECOVERY (R106); its mismatch count is less
than K, and a channel that is not watching holds no sample time and a count of 0 (R131). -/
abbrev Line.Sound (l : Line) : Prop :=
  (l.slot.isSome = true → l.cfg.policy = .defer ∧ l.busy = true) ∧
  l.mismatch < l.mon.threshold.toNat ∧
  (l.watching = false → l.sampleTime = none ∧ l.mismatch = 0)

/-- Every line is sound. -/
abbrev State.LinesSound (s : State) : Prop := ∀ n : Fin 16, (s.line n).Sound

/-! ### Report queue and registers -/

/-- At most 64 records are held, at most 60 of them ROUTINE (R148); their sequences are consecutive and end just
below the counter (R148); no lost count exceeds 255 (R149). -/
abbrev ReportQueue.Sound (q : ReportQueue) : Prop :=
  q.records.length ≤ Config.queueCapacity ∧ q.routineCount ≤ Config.routineLimit ∧
  q.records.map Record.seq = (List.range q.records.length).map
    (fun i => q.seq - BitVec.ofNat 8 (q.records.length - i)) ∧
  ∀ r ∈ q.records, r.lost ≤ Config.byteLimit

/-- The two levels hold values in range (R159). -/
abbrev Interrupt.Sound (x : Interrupt) : Prop :=
  (1 ≤ x.watermark ∧ x.watermark ≤ 64) ∧ x.spaceLevel ≤ 1023

/-! ### Ring and parser -/

/-- The publish index lies on the path from read to fill (R163). -/
abbrev Ring.PathSound (r : Ring) : Prop := (r.publish - r.read).toNat ≤ (r.fill - r.read).toNat

/-- A FENCED parser rests on the first word of a FENCE that is wholly published (R170). -/
abbrev State.FenceSound (s : State) : Prop :=
  match s.parser.state with
  | .fenced _ => 1 + fenceLength ≤ s.ring.published
  | _ => True

/-- A HALTED parser rests on the first word of the packet whose failure is recorded (R170, R175). -/
abbrev State.HaltSound (s : State) : Prop :=
  s.parser.state = .halted → s.ring.read = s.parser.haltIndex ∧ s.parser.haltCode ≠ .none

/-- The header word `w`, which stands at ring index `i`, passes the header checks (R171). -/
def headerPasses (w : Word) (i : RingIndex) : Bool :=
  match decodeHeader w i with
  | .ok _ => true
  | .error _ => false

/-- A kept header is the published word at read, and it has passed its checks (R171, R172). -/
abbrev State.KeptSound (s : State) : Prop :=
  match s.parser.state with
  | .running (some w) =>
    0 < s.ring.published ∧ w = s.ringWord s.ring.read ∧ headerPasses w s.ring.read = true
  | _ => True

/-- The ring's indexes, its words and the parser's rest are sound. -/
abbrev State.RingSound (s : State) : Prop :=
  s.ring.PathSound ∧ Memory.wf s.ring.words ∧ s.FenceSound ∧ s.HaltSound ∧ s.KeptSound

/-! ### Engine Control -/

/-- A QUIESCING engine has work in flight: it enters QUIESCED at the event that empties the part (R200). -/
abbrev State.EngineSound (s : State) : Prop := s.engine = .quiescing → s.isEmpty = false

/-! ### Quiet states: nothing is owed to a block -/

/-- No entry of the list of `ax` waits for its release: the head, if there is one, is not reached (R24). -/
abbrev State.ListQuiet (s : State) (ax : Axis) : Prop :=
  match s.list ax with
  | [] => True
  | e :: _ => reached (s.pos ax) e.due = false

/-- A detector owes nothing: it has not counted Q ticks, and a lockout's end is not reached (R94, R97). -/
abbrev State.DetectorQuiet (s : State) (n : Fin 8) : Prop :=
  match (s.det n).state with
  | .disabled => True
  | .waiting => True
  | .qualifying _ => (s.det n).count ≠ (s.det n).cfg.qual.toNat
  | .lockout => reached (s.pos (s.det n).cfg.lockAxis) (s.det n).lockoutEnd = false

/-- A line owes nothing: neither end, guard nor recovery end stands at the present position, and no sample is due
(R118, R120, R122, R134). -/
abbrev State.LineQuiet (s : State) (n : Fin 16) : Prop :=
  (match (s.line n).state with
   | .active u => u.endPos ≠ s.measurePos u.measure ∧ u.guard ≠ some s.t
   | .recovery e => e ≠ s.t
   | _ => True) ∧
  ((s.line n).watching = true → (s.line n).sampleTime ≠ some s.t)

/-- The parser owes nothing: a fence it holds has neither a true condition nor an expiry now (R183, R185). -/
abbrev State.FenceQuiet (s : State) : Prop :=
  match s.parser.state with
  | .fenced r => s.fenceHolds r.fields = false ∧ r.expiry ≠ some s.t
  | _ => True

/-- Every event that the last changes of the axes and of the blocks brought about has been taken. -/
abbrev State.Quiet (s : State) : Prop :=
  (∀ ax : Axis, s.ListQuiet ax) ∧ (∀ n : Fin 8, s.DetectorQuiet n) ∧ (∀ n : Fin 16, s.LineQuiet n) ∧
    s.FenceQuiet

/-! ### Packets that stand ready -/

/-- The packet `p` stands complete at read with its header kept by the RUNNING parser (R172): its words, as
chapter 11 encodes them, are the published words from read on. -/
abbrev State.PacketReady (s : State) (p : Packet) : Prop :=
  p.wf = true ∧ s.parser.state = .running (some p.header) ∧ p.words.length ≤ s.ring.published ∧
    s.bodyWords p.body.length = p.body

/-! ### The whole part -/

/-- No step stops: the manual gives every step an effect in every state. -/
def State.goesOn (s : State) : Prop := ∃ t, step s = .next t

end Sys2Proof.Machine

namespace Sys2Proof

/-- The row of the opcode table in which the parser takes a packet. -/
def Packet.row : Packet → Instr
  | .pad _ => .pad
  | .mark _ => .mark
  | .fence _ => .fence
  | .configAxis _ _ => .configAxis
  | .presetAxis _ _ => .presetAxis
  | .configDetector _ _ => .configDetector
  | .detectorControl _ .enable => .enable
  | .detectorControl _ .disable => .disable
  | .configLine _ _ _ => .configLine
  | .lineControl _ .arm => .arm
  | .lineControl _ .disarm => .disarm
  | .lineControl _ .clearFault => .clearFault
  | .lineControl _ .forceOff => .forceOff
  | .writeRecipe _ _ => .writeRecipe
  | .writeSteps _ _ => .writeSteps
  | .copyBank => .copyBank
  | .switchBank => .switchBank
  | .injectItem _ _ _ => .injectItem
  | .verdict _ _ _ => .verdict
  | .cancelItem _ => .cancelItem
  | .scheduleFire _ => .scheduleFire
  | .cancelTag _ => .cancelTag

/-- The rows in which the parser takes packets of a kind. -/
def PacketKind.rows : PacketKind → List Instr
  | .pad => [.pad]
  | .mark => [.mark]
  | .fence => [.fence]
  | .configAxis => [.configAxis]
  | .presetAxis => [.presetAxis]
  | .configDetector => [.configDetector]
  | .detectorControl => [.enable, .disable]
  | .configLine => [.configLine]
  | .lineControl => [.arm, .disarm, .clearFault, .forceOff]
  | .writeRecipe => [.writeRecipe]
  | .writeSteps => [.writeSteps]
  | .copyBank => [.copyBank]
  | .switchBank => [.switchBank]
  | .injectItem => [.injectItem]
  | .verdict => [.verdict]
  | .cancelItem => [.cancelItem]
  | .scheduleFire => [.scheduleFire]
  | .cancelTag => [.cancelTag]

end Sys2Proof
end

