-- ==== Sys2Proof/Claims.lean ====
section
/-!
DEFINITION. The terms in which the statements of Sys2Proof/Certificates/Slice0/Obligations.lean say what a command
does: tables and outcomes written out from the manual's tables a second time, apart from the step of the model.
-/
namespace Sys2Proof.Claims

open Sys2Proof.Machine

/-! ### Records offered in order (R148 to R150) -/

/-- The queue after it has taken several offers, one after another (R150). -/
def offers (q : ReportQueue) (rs : List Report) : ReportQueue := rs.foldl ReportQueue.offer q

/-! ### Header checks (R206, 11.3) -/

/-- The allowed lengths of a kind code; none for a code that names no kind (11.3). -/
def allowedLengths : Nat → List Nat
  | 1 => List.range 256
  | 2 => [1]
  | 3 => [5]
  | 4 => [3]
  | 5 => [3]
  | 6 => [4]
  | 7 => [1]
  | 8 => [7]
  | 9 => [2]
  | 10 => [3]
  | 11 => [7, 13, 19, 25, 31, 37, 43, 49, 55, 61]
  | 12 => [0]
  | 13 => [0]
  | 14 => [3]
  | 15 => [3]
  | 16 => [1]
  | 17 => [7]
  | 18 => [1]
  | _ => []

/-- The halt code of the first header check that fails, NONE when all three pass (R171, R206). -/
def headerCheck (kind length index : Nat) : HaltCode :=
  if kind = 0 ∨ 19 ≤ kind then .unknownKind
  else if length ∉ allowedLengths kind then .badLength
  else if 1024 < index + 1 + length then .straddle
  else .none

/-- The part after a format error with halt code `code` (R175). -/
def halted (s : State) (code : HaltCode) : State :=
  { s with
    parser := { state := .halted, haltCode := code, haltIndex := s.ring.read }
    queue := s.queue.offer
      { kind := .cmdHalt, subject := s.ring.read.setWidth 16, axis := .t, position := s.t
        detail := BitVec.ofNat 21 code.code, aux1 := s.ringWord s.ring.read, aux2 := 0 } }

/-! ### Axes (R6 to R12) -/

/-- The column "New pair FORWARD" of R6. -/
def forwardPair (last new : Phases) : Bool :=
  match last.a, last.b, new.a, new.b with
  | false, false, true, false => true
  | true, false, true, true => true
  | true, true, false, true => true
  | false, true, false, false => true
  | _, _, _, _ => false

/-- The column "New pair BACKWARD" of R6. -/
def backwardPair (last new : Phases) : Bool :=
  match last.a, last.b, new.a, new.b with
  | false, false, false, true => true
  | true, false, false, false => true
  | true, true, true, false => true
  | false, true, true, true => true
  | _, _, _, _ => false

/-- The transition is one forward count, with the invert setting taken into account (R6). -/
def countsForward (a : EncAxis) (ph : Phases) : Bool :=
  if a.cfg.invert then backwardPair a.phases ph else forwardPair a.phases ph

/-- The transition is one backward count (R6). -/
def countsBackward (a : EncAxis) (ph : Phases) : Bool :=
  if a.cfg.invert then forwardPair a.phases ph else backwardPair a.phases ph

/-- A forward unit on an axis (R9, R10, R11). -/
def forwardUnit (a : EncAxis) : EncAxis :=
  if a.cfg.policy = .forwardOnly ∧ 0 < a.debt then
    { a with debt := a.debt - 1, debtLatch := if a.debt = 65535 then false else a.debtLatch }
  else { a with pos := a.pos + 1 }

/-- A backward unit on an axis (R9, R10, R11). -/
def backwardUnit (a : EncAxis) : EncAxis :=
  if a.cfg.policy = .bidirectional then { a with pos := a.pos - 1 }
  else if a.debt < 65535 then { a with debt := a.debt + 1 }
  else { a with debtLatch := true }

/-- An axis after its phase inputs have changed to `ph` (R6 to R12). -/
def axisAfter (a : EncAxis) (ph : Phases) : EncAxis :=
  if ph = a.phases then a
  else if a.cfg.mode = .halted then { a with phases := ph }
  else if countsForward a ph then
    let b := { a with phases := ph, quadError := false }
    if a.residue + 1 < a.cfg.divider then { b with residue := a.residue + 1 }
    else forwardUnit { b with residue := 0 }
  else if countsBackward a ph then
    let b := { a with phases := ph, quadError := false }
    if -(a.cfg.divider : Int) < a.residue - 1 then { b with residue := a.residue - 1 }
    else backwardUnit { b with residue := 0 }
  else { a with phases := ph, quadError := true }

/-- A transition that makes a unit which the position takes (R9, R10). -/
def movesPosition (a : EncAxis) (ph : Phases) : Bool := decide ((axisAfter a ph).pos ≠ a.pos)

/-- The records that a transition gives rise to while it moves no position (R11, R12). -/
def axisRecords (enc : Enc) (a : EncAxis) (ph : Phases) : List Report :=
  if ph = a.phases ∨ a.cfg.mode = .halted then []
  else if countsForward a ph then []
  else if countsBackward a ph then
    if -(a.cfg.divider : Int) < a.residue - 1 then []
    else if a.cfg.policy = .forwardOnly ∧ 65535 ≤ a.debt ∧ a.debtLatch = false then
      [{ kind := .axisDebtLimit, subject := BitVec.ofNat 16 enc.code, axis := enc.axis, position := a.pos
         detail := 0, aux1 := 0, aux2 := 0 }]
    else []
  else if a.quadError then []
  else
    [{ kind := .axisQuadError, subject := BitVec.ofNat 16 enc.code, axis := enc.axis, position := a.pos
       detail := 0, aux1 := 0, aux2 := 0 }]

/-- The four conditions of R13 on an encoder axis. -/
def InUse (s : State) (enc : Enc) : Prop :=
  s.list enc.axis ≠ [] ∨
  (∃ n u, (s.line n).state = .active u ∧ u.measure = .distance enc) ∨
  (∃ n, (s.det n).state = .lockout ∧ (s.det n).cfg.lockAxis = enc.axis) ∨
  (∃ r, s.parser.state = .fenced r ∧ r.fields.cond = .axisReached ∧ r.fields.axis = .one enc.axis)

/-- The packet asks only to enable a HALTED axis (R14, second row). -/
def OnlyEnables (old new : AxisSettings) : Prop :=
  old.mode = .halted ∧ new.mode = .counting ∧ new.divider = old.divider ∧ new.policy = old.policy ∧
    new.invert = old.invert

/-! ### Lines (R109 to R112, R118 to R122) -/

/-- The sample time after a drive change, or after another event that R133 lists, on a line that is not left
DISABLED. -/
def sampleAfter (l : Line) (t : Pos) : Option Pos :=
  if l.mon.enable then some (t + l.mon.settle.setWidth 32 + 1) else l.sampleTime

/-- A line after its ACTIVE pulse has ended NORMAL, FORCED or OVERTIME (R121, R122, R133). -/
def lineAfterEnd (s : State) (l : Line) : Line :=
  if 1 ≤ l.cfg.minOff.toNat then
    { l with state := .recovery (s.t + l.cfg.minOff.setWidth 32), sampleTime := sampleAfter l s.t }
  else
    match l.slot with
    | some q => { l with state := .active (s.pulseFor l q true), slot := none }
    | none => { l with state := .idle, sampleTime := sampleAfter l s.t }

/-- FIRE_DONE of a pulse end, when firing reports are on (R126). -/
def fireDone (s : State) (n : Fin 16) (l : Line) (u : Pulse) (reason : EndReason) : List Report :=
  if l.cfg.reports then [fireDoneReport n u reason s.t] else []

/-- FIRE_DROPPED of the request in the pending slot, if there is one (R127). -/
def slotDropped (n : Fin 16) (l : Line) (reason : DropReason) : List Report :=
  match l.slot with
  | some q => [fireDroppedReport n q reason]
  | none => []

/-- A masked line after an action of LINE_CONTROL (R109 to R112, R133, R138, R139). -/
def lineAfter (s : State) (a : LineAction) (l : Line) : Line :=
  match a, l.state with
  | .arm, .disabled => { l with state := .idle, sampleTime := sampleAfter l s.t }
  | .arm, _ => l
  | .disarm, .disabled => l
  | .disarm, _ => { l with state := .disabled, slot := none, sampleTime := none, mismatch := 0 }
  | .clearFault, .faulted => { l with state := .idle, mismatch := 0, sampleTime := sampleAfter l s.t }
  | .clearFault, _ => l
  | .forceOff, .active _ => lineAfterEnd s l
  | .forceOff, _ => l

/-- The CMD_REFUSED of a LINE_CONTROL action for one line (R108, 11.4.3). -/
def lineRefusal (n : Fin 16) (a : LineAction) : Report :=
  cmdRefusedReport .lineControl .wrongState 0 (BitVec.ofNat 16 n.val) (BitVec.ofNat 16 a.code) 0

/-- The records of an action on a masked line, in order (R109 to R112). -/
def lineRecords (s : State) (a : LineAction) (n : Fin 16) (l : Line) : List Report :=
  match a, l.state with
  | .arm, .faulted => [lineRefusal n .arm]
  | .arm, _ => []
  | .disarm, .disabled => []
  | .disarm, .active u => fireDone s n l u .disarmed ++ slotDropped n l .disarmed
  | .disarm, _ => slotDropped n l .disarmed
  | .clearFault, .faulted =>
    [{ kind := .lineFaultCleared, subject := BitVec.ofNat 16 n.val, axis := .t, position := s.t
       detail := 0, aux1 := 0, aux2 := 0 }]
  | .clearFault, _ => [lineRefusal n .clearFault]
  | .forceOff, .active u => fireDone s n l u .forced
  | .forceOff, _ => []

/-- The records of a packet over the masked lines, LINE0 first (R108). -/
def maskedRecords (s : State) (mask : Word) (a : LineAction) : List Report :=
  (List.finRange 16).flatMap fun n => if mask.getLsbD n.val then lineRecords s a n (s.line n) else []

/-! ### Line Monitor (R134 to R137) -/

/-- A channel after a sample that reads `sense` at `t`, before any fault it raises (R134, R135, R137). -/
def sampledLine (l : Line) (t : Pos) (sense : Bool) : Line :=
  { l with
    lastSense := sense
    sampleTime := if l.mon.interval = 0 then none else some (t + l.mon.interval.setWidth 32)
    mismatch :=
      if sense = l.drive then 0
      else if l.mismatch + 1 < l.mon.threshold.toNat then l.mismatch + 1
      else 0 }

/-- The sample raises a line fault (R135, R137). -/
def raisesFault (l : Line) (sense : Bool) : Bool :=
  decide (sense ≠ l.drive) && decide (l.mon.threshold.toNat ≤ l.mismatch + 1) &&
    decide (l.state ≠ .faulted)

/-- The line after a sample that raises a fault (R135, R136, R123, R133). -/
def faultedLine (l : Line) (t : Pos) (sense : Bool) : Line :=
  let kind : FaultKind := if l.drive then .stuckOff else .stuckOn
  let m := { sampledLine l t sense with lastFault := kind }
  match l.mon.action with
  | .report => m
  | .shutdown =>
    { m with
      state := .faulted
      slot := none
      sampleTime := if l.drive then some (t + l.mon.settle.setWidth 32 + 1) else m.sampleTime }

/-- The records of a line fault, LINE_FAULT last (R135, R136). -/
def faultRecords (s : State) (n : Fin 16) (l : Line) : List Report :=
  let kind : FaultKind := if l.drive then .stuckOff else .stuckOn
  let lineFault := lineFaultReport n kind l.mon.action l.state l.pulseOrigin s.t
  match l.mon.action, l.state with
  | .report, _ => [lineFault]
  | .shutdown, .active u => fireDone s n l u .fault ++ slotDropped n l .faulted ++ [lineFault]
  | .shutdown, _ => slotDropped n l .faulted ++ [lineFault]

/-! ### Admission (R49, R52, R54, R86, R87) -/

/-- The reason of the first check of admission that fails (R52). -/
def refusal (s : State) (r : Fin 16) : Option Reason :=
  if s.engine ≠ .run then some .quiesced
  else if (s.recipe r).count = 0 then some .noRecipe
  else if ∀ i : Fin 64, (s.slot i).item.isSome = true then some .noItem
  else if s.free.length < (s.recipe r).count then some .noEntries
  else none

/-- The entry that the `k`-th step of a recipe becomes (R36, R86, R87, R20). -/
def stepToEntry (s : State) (r : Fin 16) (capture : Pos) (h : Handle) (k : Nat) : Entry :=
  let hd := s.recipe r
  let index : Fin 128 := Fin.ofNat 128 (hd.first.val + k)
  let st := (s.activeBank.steps[index]).step
  { number := s.free.getD k 0
    axis := hd.axis
    due := capture + st.delay.setWidth 32
    owner := .item h index
    action :=
      match st.action, hd.axis with
      | .pulse, .t => .pulse st.line st.width .time st.cond
      | .pulse, .e1 => .pulse st.line st.width st.unit st.cond
      | .pulse, .e2 => .pulse st.line st.width st.unit st.cond
      | .deadline, _ => .deadline
    repeats := if st.action = .pulse then st.repeats else 0
    spacing := st.spacing }

/-- The entries of an item admitted under recipe `r` (R36). -/
def itemEntries (s : State) (r : Fin 16) (capture : Pos) (h : Handle) : List Entry :=
  (List.range (s.recipe r).count).map (stepToEntry s r capture h)

/-- The lowest-numbered FREE slot is `i` (R46). -/
def LowestFree (s : State) (i : Fin 64) : Prop :=
  (s.slot i).item = none ∧ ∀ j : Fin 64, j < i → (s.slot j).item ≠ none

/-- The part after an admission to slot `i` in which nothing is released (R46, R54, R36). -/
def admitted (s : State) (r : Fin 16) (origin : ItemOrigin) (tag : Option Word) (capture : Pos)
    (i : Fin 64) : State :=
  let hd := s.recipe r
  let h : Handle := { gen := (s.slot i).gen + 1, slot := i }
  let x : Item :=
    { origin := origin, bank := s.active, recipe := r, axis := hd.axis, capture := capture
      dflt := hd.dflt, decision := none, tag := tag, pending := hd.count, fired := 0, dropped := 0
      late := false }
  let s1 : State :=
    { s with slots := s.slots.set i { gen := h.gen, item := some x }, free := s.free.drop hd.count }
  s1.setList hd.axis
    ((itemEntries s r capture h).foldl (fun l e => insertByLead (s.pos hd.axis) e l) (s.list hd.axis))

/-- No step of the recipe is due at once, and the recipe's list owes no release. -/
def NothingDue (s : State) (r : Fin 16) (capture : Pos) : Prop :=
  s.ListQuiet (s.recipe r).axis ∧
  ∀ e ∈ itemEntries s r capture { gen := 0, slot := 0 }, reached (s.pos (s.recipe r).axis) e.due = false

/-! ### SCHEDULE_FIRE (R38, R39) -/

/-- The window of R39, by the table's rows. -/
def inWindow (p due : Pos) : Bool :=
  let ahead := (due - p).toNat
  let behind := (p - due).toNat
  decide (1 ≤ ahead ∧ ahead ≤ 16777215) || decide (behind ≤ 16777215)

/-- The reason of the first check of SCHEDULE_FIRE that fails (R38). -/
def fireRefusal (s : State) (f : FireFields) : Option Reason :=
  if s.engine ≠ .run then some .quiesced
  else if inWindow (s.pos f.axis) f.due = false then some .range
  else if s.free = [] then some .noEntries
  else none

/-- The width unit that an entry stores (R20). -/
def unitOn (ax : Axis) (u : WidthUnit) : WidthUnit :=
  match ax with
  | .t => .time
  | .e1 => u
  | .e2 => u

/-- The host entry of a SCHEDULE_FIRE that takes entry `n` (R19, R20). -/
def hostEntry (f : FireFields) (n : Nat) : Entry :=
  { number := n, axis := f.axis, due := f.due, owner := .host f.tag
    action := .pulse f.line f.width (unitOn f.axis f.unit) .always
    repeats := f.repeats, spacing := f.spacing }

/-- The request that a SCHEDULE_FIRE's entry sends when it is released at `p` (R31). -/
def hostRequest (f : FireFields) (p : Pos) : FiringRequest :=
  { width := f.width, unit := unitOn f.axis f.unit, axis := f.axis, position := p, origin := .host f.tag
    late := decide (p ≠ f.due) }

/-! ### Release of an item's entry (R25 to R35) -/

/-- The item when the condition of its released entry is evaluated: at a decision point an AWAITING item has been
given its default (R27, R30, R61). -/
def decided (x : Item) (decisionPoint : Bool) : Item :=
  match decisionPoint, x.decision with
  | true, none => { x with decision := some (x.dflt, .default) }
  | _, _ => x

/-- VERDICT_DEFAULTED, when the release is a decision point of an AWAITING item (R61). -/
def defaultRecords (h : Handle) (x : Item) (step : Fin 128) (ax : Axis) (p : Pos) (decisionPoint : Bool) :
    List Report :=
  match decisionPoint, x.decision with
  | true, none => [verdictDefaultedReport h x.dflt ax p step x.tag]
  | _, _ => []

/-- A pulse of this condition fires for an item that holds this decision (R26, R27). -/
def fires (c : Condition) (d : Option (Verdict × VerdictSource)) : Bool :=
  match c, d with
  | .always, _ => true
  | .ifAccept, some (.accept, _) => true
  | .ifReject, some (.reject, _) => true
  | _, _ => false

/-- The item after a line's answer (R63). -/
def answered (x : Item) : Answer → Item
  | .accepted => { x with fired := if x.fired < 255 then x.fired + 1 else 255 }
  | .dropped _ => { x with dropped := if x.dropped < 255 then x.dropped + 1 else 255 }

/-- FIRE_DROPPED, when the line drops the request (R127). -/
def dropRecords (line : Fin 16) (q : FiringRequest) : Answer → List Report
  | .accepted => []
  | .dropped r => [fireDroppedReport line q r]

/-- The item after the release's action: the default, the tally, the late flag (R35). -/
def releasedItem (s : State) (ax : Axis) (e : Entry) (h : Handle) (x : Item) : Item :=
  let late := x.late || decide (s.pos ax ≠ e.due)
  match e.action with
  | .deadline => { decided x true with late := late }
  | .pulse line width unit c =>
    let y := decided x (decide (c ≠ .always))
    let q : FiringRequest :=
      { width := width, unit := unit, axis := ax, position := s.pos ax, origin := .item h
        late := decide (s.pos ax ≠ e.due) }
    let z := if fires c y.decision then answered y (s.answer line q).2 else y
    { z with late := late }

/-- The lines after the release's action (R26 to R31). -/
def releasedLines (s : State) (ax : Axis) (e : Entry) (h : Handle) (x : Item) : Vector Line 16 :=
  match e.action with
  | .deadline => s.lines
  | .pulse line width unit c =>
    let q : FiringRequest :=
      { width := width, unit := unit, axis := ax, position := s.pos ax, origin := .item h
        late := decide (s.pos ax ≠ e.due) }
    if fires c (decided x (decide (c ≠ .always))).decision then s.lines.set line (s.answer line q).1
    else s.lines

/-- The records of the release's action, in the order of R35. -/
def releasedRecords (s : State) (ax : Axis) (e : Entry) (h : Handle) (step : Fin 128) (x : Item) :
    List Report :=
  match e.action with
  | .deadline => defaultRecords h x step ax (s.pos ax) true
  | .pulse line width unit c =>
    let point := decide (c ≠ .always)
    let q : FiringRequest :=
      { width := width, unit := unit, axis := ax, position := s.pos ax, origin := .item h
        late := decide (s.pos ax ≠ e.due) }
    defaultRecords h x step ax (s.pos ax) point ++
      (if fires c (decided x point).decision then dropRecords line q (s.answer line q).2 else [])

/-! ### Expiry (R23, R34, R65) -/

/-- A slot after the entries `gone` are freed without any action: its item's pending count lowered by the number of
them that carry its handle, and the slot FREE with its generation kept when none is left (R34, R65). -/
def slotAfterFreeing (s : State) (gone : List Entry) (i : Fin 64) : Slot :=
  let k := gone.countP (Entry.ofItem (s.handleOf i))
  match (s.slot i).item with
  | none => s.slot i
  | some x =>
    if k = 0 then s.slot i
    else if k < x.pending then { s.slot i with item := some { x with pending := x.pending - k } }
    else { s.slot i with item := none }

/-- ITEM_DONE, when the freeing of the entry at place `k` of `gone` is the one that leaves its item without an
entry (R65). -/
def retirementAt (s : State) (gone : List Entry) (k : Nat) : List Report :=
  match gone[k]? with
  | some e =>
    match e.owner with
    | .item h _ =>
      match s.findItem h with
      | some x =>
        if (gone.take (k + 1)).countP (Entry.ofItem h) = max 1 x.pending
        then [itemDoneReport h { x with pending := 0 }] else []
      | none => []
    | .host _ => []
  | none => []

/-- The records of the freeing of `gone`, in list order (R23, R65). -/
def retirements (s : State) (gone : List Entry) : List Report :=
  (List.range gone.length).flatMap (retirementAt s gone)

/-! ### Fences (R182) -/

/-- The condition of a fence holds, by the table of R182. -/
def FenceHolds (s : State) (f : FenceFields) : Prop :=
  match f.cond, f.axis with
  | .axisReached, .one ax => (s.pos ax - f.position).toNat < 2147483648
  | .axisReached, .all => False
  | .itemsEmpty, _ => ∀ i : Fin 64, (s.slot i).item = none
  | .scheduleEmpty, .one ax => s.list ax = []
  | .scheduleEmpty, .all => s.tList = [] ∧ s.e1List = [] ∧ s.e2List = []
  | .linesIdle, _ =>
    ∀ n : Fin 16, f.mask.getLsbD n.val = true →
      match (s.line n).state with
      | .active _ => False
      | .recovery _ => False
      | .disabled => True
      | .idle => True
      | .faulted => True

/-- The part is empty: no slot in use and all three lists empty (R199). -/
def PartEmpty (s : State) : Prop :=
  (∀ i : Fin 64, (s.slot i).item = none) ∧ s.tList = [] ∧ s.e1List = [] ∧ s.e2List = []

/-- QUIESCED, with the position of T at entry (R199, 11.4.1). -/
def quiescedRecord (s : State) : Report :=
  { kind := .quiesced, subject := 0, axis := .t, position := s.t, detail := 0, aux1 := 0, aux2 := 0 }

/-- The release pass of `ax` on `s` goes on from `r`, the part after its first release. While the list holds an
entry, the pass is the pass on `r`. Where `r` owes no release the pass ends there, and a QUIESCING engine that it
leaves with an empty part enters QUIESCED, its record last (R24, R33, R200). -/
def PassGoesOnFrom (ax : Axis) (s r : State) : Prop :=
  (r.list ax ≠ [] → exec (.scheduleReleasePass ax) s = exec (.scheduleReleasePass ax) r) ∧
  (r.ListQuiet ax → s.engine ≠ .quiescing ∨ ¬ PartEmpty r → exec (.scheduleReleasePass ax) s = .next r) ∧
  (r.ListQuiet ax → s.engine = .quiescing → PartEmpty r →
    exec (.scheduleReleasePass ax) s =
      .next { r with engine := .quiesced, queue := r.queue.offer (quiescedRecord r) })

/-! ### Recipes (R81) -/

/-- What validation asks of one defined recipe (R81). -/
def RecipeComplete (b : Bank) (h : RecipeHeader) : Prop :=
  (∀ k < h.count, (b.steps[Fin.ofNat 128 (h.first.val + k)]).written = true) ∧
  ∃ k < h.count, (b.steps[Fin.ofNat 128 (h.first.val + k)]).step.action = .pulse

/-- Every defined recipe of a bank is complete (R81). -/
def BankComplete (b : Bank) : Prop :=
  ∀ r : Fin 16, b.headers[r].count ≠ 0 → RecipeComplete b b.headers[r]

/-! ### Commands one after another -/

/-- The commands, taken one after another from `s`, lead to `t`. -/
def Runs (s : State) : List Instr → State → Prop
  | [], t => t = s
  | c :: cs, t => ∃ u, exec c s = .next u ∧ Runs u cs t

/-- The rows of the events that may be owed when T is about to advance, in the order of the opcode table: the order
is the model's choice (notes/assumptions/2.md). -/
def owedEvents : List Instr :=
  [.scheduleReleasePass .t, .scheduleReleasePass .e1, .scheduleReleasePass .e2] ++
    (List.finRange 8).map .qualificationComplete ++ (List.finRange 8).map .lockoutEnd ++
    (List.finRange 16).map .pulseEnd ++ (List.finRange 16).map .maxOnExpiry ++
    (List.finRange 16).map .recoveryEnd ++ (List.finRange 16).map .monitorSample ++ [.fenceNotice, .fenceTimeout]

/-! ### What a read of the window returns (11.1, 11.2, 11.4) -/

/-- The axis codes (11.3.1). -/
def axisBits : Axis → BitVec 2
  | .t => 0
  | .e1 => 1
  | .e2 => 2

/-- The engine-state codes (11.2). -/
def engineBits : EngineState → BitVec 2
  | .run => 0
  | .quiescing => 1
  | .quiesced => 2

/-- The parser-state codes (11.2). -/
def parserBits : ParserState → BitVec 2
  | .stopped => 0
  | .running _ => 1
  | .fenced _ => 2
  | .halted => 3

/-- The number of a bank (11.2). -/
def bankBit : BankId → BitVec 1
  | .bank0 => 0
  | .bank1 => 1

/-- The detector-state codes (11.2). -/
def detectorBits : DetectorState → BitVec 2
  | .disabled => 0
  | .waiting => 1
  | .qualifying _ => 2
  | .lockout => 3

/-- The line-state codes (11.2). -/
def lineBits : LineState → BitVec 3
  | .disabled => 0
  | .idle => 1
  | .active _ => 2
  | .recovery _ => 3
  | .faulted => 4

/-- The codes of the last fault kind (11.2). -/
def faultBits : FaultKind → BitVec 2
  | .none => 0
  | .stuckOn => 1
  | .stuckOff => 2

/-- The halt codes (11.2). -/
def haltBits : HaltCode → BitVec 3
  | .none => 0
  | .unknownKind => 1
  | .badLength => 2
  | .straddle => 3
  | .badField => 4

/-- The kind codes of report records (11.4.1). -/
def kindBits : ReportKind → BitVec 8
  | .cmdHalt => 1
  | .lineFault => 2
  | .lineOvertime => 3
  | .axisQuadError => 4
  | .axisDebtLimit => 5
  | .itemDone => 6
  | .itemCancelled => 7
  | .detectRefused => 8
  | .verdictDefaulted => 9
  | .fireDone => 10
  | .fireDropped => 11
  | .cmdRefused => 12
  | .mark => 13
  | .fenceTimeout => 14
  | .bankSwitched => 15
  | .quiesced => 16
  | .lineFaultCleared => 17

/-- STATE, bit 15 first (11.2, R193). -/
def stateBits (s : State) : Word :=
  0#3 ++ BitVec.ofBool (decide (∃ n : Fin 16, (s.line n).state = .faulted)) ++ 0#3 ++ bankBit s.active ++
    0#2 ++ parserBits s.parser.state ++ 0#2 ++ engineBits s.engine

/-- LINE_STATUS of a line, bit 15 first (11.2, R194). -/
def lineStatusBits (l : Line) : Word :=
  0#6 ++ faultBits l.lastFault ++ BitVec.ofBool l.lastSense ++ BitVec.ofNat 3 l.mismatch ++
    BitVec.ofBool l.slot.isSome ++ lineBits l.state

/-- DET_STATUS, DET7 first (11.2, R195). -/
def detStatusBits (s : State) : Word :=
  detectorBits (s.det 7).state ++ detectorBits (s.det 6).state ++ detectorBits (s.det 5).state ++
    detectorBits (s.det 4).state ++ detectorBits (s.det 3).state ++ detectorBits (s.det 2).state ++
    detectorBits (s.det 1).state ++ detectorBits (s.det 0).state

/-- Word `n` of the head record, bit 15 first; 0 with the queue empty. The FAULT kinds have the codes 1 to 5 (11.4,
R152). -/
def headBits (q : ReportQueue) (n : Nat) : Word :=
  match q.records with
  | [] => 0
  | r :: _ =>
    match n with
    | 0 =>
      BitVec.ofBool (decide ((kindBits r.report.kind).toNat ≤ 5)) ++ r.report.detail.extractLsb' 16 5 ++
        axisBits r.report.axis ++ kindBits r.report.kind
    | 1 => BitVec.ofNat 8 r.lost ++ r.seq
    | 2 => r.report.subject
    | 3 => r.report.position.extractLsb' 0 16
    | 4 => r.report.position.extractLsb' 16 16
    | 5 => r.report.detail.extractLsb' 0 16
    | 6 => r.report.aux1
    | _ => r.report.aux2

/-- The word that a read of a register with access R, R/W or R/W1C returns, and 0 for the five registers of access
W: CMD, RING_DATA, RING_PUBLISH, RING_WITHDRAW and REPORT_POP (11.1, R189). -/
def windowWord (s : State) (offset : BitVec 5) : Word :=
  match offset.toNat with
  | 0x00 => 0
  | 0x01 => stateBits s
  | 0x02 => 0
  | 0x03 => 0
  | 0x04 => 0
  | 0x05 => 0#6 ++ s.ring.read
  | 0x06 => 0#6 ++ s.ring.fill
  | 0x07 => BitVec.ofNat 16 s.ring.free
  | 0x08 => BitVec.ofNat 16 s.irq.spaceLevel
  | 0x09 => 0#9 ++ s.causes
  | 0x0A => 0#9 ++ s.irq.enable
  | 0x0B => BitVec.ofNat 16 s.queue.records.length
  | 0x0C => BitVec.ofNat 16 s.irq.watermark
  | 0x0D => 0
  | 0x0E => headBits s.queue 0
  | 0x0F => headBits s.queue 1
  | 0x10 => headBits s.queue 2
  | 0x11 => headBits s.queue 3
  | 0x12 => headBits s.queue 4
  | 0x13 => headBits s.queue 5
  | 0x14 => headBits s.queue 6
  | 0x15 => headBits s.queue 7
  | 0x16 => 0#14 ++ axisBits s.bus.posSelect
  | 0x17 => (s.pos s.bus.posSelect).extractLsb' 0 16
  | 0x18 => s.bus.hold
  | 0x19 => BitVec.ofNat 16 ((List.finRange 64).countP fun i => (s.slot i).item.isSome)
  | 0x1A => BitVec.ofNat 16 s.free.length
  | 0x1B => BitVec.ofNat 16 s.bus.lineSelect.val
  | 0x1C => lineStatusBits (s.line s.bus.lineSelect)
  | 0x1D => detStatusBits s
  | 0x1E =>
    match s.bus.posSelect with
    | .t => 0
    | .e1 => BitVec.ofNat 16 s.enc1.debt
    | .e2 => BitVec.ofNat 16 s.enc2.debt
  | _ => 0#1 ++ haltBits s.parser.haltCode ++ 0#2 ++ s.parser.haltIndex

/-! ### The contents of report records (11.4.1 to 11.4.3)

Details are written bit 20 first. -/

/-- A handle: the generation in the high byte, the slot in the low byte (11.3.1). -/
def handleBits (h : Handle) : Word := h.gen ++ BitVec.ofNat 8 h.slot.val

/-- The verdict codes, 0 for NONE (11.4.2). -/
def verdictBits : Option Verdict → BitVec 2
  | none => 0
  | some .accept => 1
  | some .reject => 2

/-- The codes of a verdict source: 0 with verdict NONE (11.4.2). -/
def sourceBit : Option VerdictSource → BitVec 1
  | none => 0
  | some .host => 0
  | some .default => 1

/-- The origin codes of the item layout (11.4.2). -/
def itemOriginBits : ItemOrigin → BitVec 4
  | .detector n => BitVec.ofNat 4 n.val
  | .host => 8

/-- The origin kinds: 0 appears in LINE_FAULT alone (11.4.2). -/
def originKindBits : Option Origin → BitVec 2
  | none => 0
  | some (.item _) => 1
  | some (.host _) => 2

/-- The origin values (11.4.2). -/
def originValue : Option Origin → Word
  | none => 0
  | some (.item h) => handleBits h
  | some (.host tag) => tag

/-- The monitor-action codes (11.4.2). -/
def monitorActionBit : MonitorAction → BitVec 1
  | .report => 0
  | .shutdown => 1

/-- The end-reason codes (11.4.2). -/
def endReasonBits : EndReason → BitVec 3
  | .normal => 0
  | .forced => 1
  | .overtime => 2
  | .fault => 3
  | .disarmed => 4

/-- The drop-reason codes (11.4.2). -/
def dropReasonBits : DropReason → BitVec 3
  | .disabled => 0
  | .faulted => 1
  | .collide => 2
  | .mismatch => 3
  | .disarmed => 4

/-- The reason codes of a refusal (11.4.2). -/
def reasonBits : Reason → BitVec 4
  | .busy => 1
  | .stale => 2
  | .late => 3
  | .duplicate => 4
  | .range => 5
  | .noItem => 6
  | .noEntries => 7
  | .noRecipe => 8
  | .quiesced => 9
  | .invalidBank => 10
  | .wrongState => 11

/-- The packet kind codes (11.3). -/
def packetKindBits : PacketKind → BitVec 5
  | .pad => 1
  | .mark => 2
  | .fence => 3
  | .configAxis => 4
  | .presetAxis => 5
  | .configDetector => 6
  | .detectorControl => 7
  | .configLine => 8
  | .lineControl => 9
  | .writeRecipe => 10
  | .writeSteps => 11
  | .copyBank => 12
  | .switchBank => 13
  | .injectItem => 14
  | .verdict => 15
  | .cancelItem => 16
  | .scheduleFire => 17
  | .cancelTag => 18

/-- LINE_FAULT: the fault layout (11.4.1, 11.4.2). -/
def lineFaultRecord (n : Fin 16) (kind : FaultKind) (action : MonitorAction) (st : LineState)
    (origin : Option Origin) (t : Pos) : Report :=
  { kind := .lineFault, subject := BitVec.ofNat 16 n.val, axis := .t, position := t
    detail := 0#11 ++ originKindBits origin ++ 0#1 ++ lineBits st ++ 0#1 ++ monitorActionBit action ++
      faultBits kind
    aux1 := originValue origin, aux2 := 0 }

/-- LINE_OVERTIME: the origin alone (11.4.1). -/
def lineOvertimeRecord (n : Fin 16) (origin : Origin) (t : Pos) : Report :=
  { kind := .lineOvertime, subject := BitVec.ofNat 16 n.val, axis := .t, position := t
    detail := 0#11 ++ originKindBits (some origin) ++ 0#8, aux1 := originValue (some origin), aux2 := 0 }

/-- The item layout, with the number of entries removed (11.4.2). -/
def itemDetail (x : Item) (removed : Nat) : BitVec 21 :=
  BitVec.ofNat 5 removed ++ 0#2 ++ itemOriginBits x.origin ++ BitVec.ofNat 4 x.recipe.val ++ bankBit x.bank ++
    BitVec.ofBool x.tag.isSome ++ BitVec.ofBool x.late ++ sourceBit (x.decision.map Prod.snd) ++
    verdictBits (x.decision.map Prod.fst)

/-- ITEM_DONE (11.4.1, R66). -/
def itemDoneRecord (h : Handle) (x : Item) : Report :=
  { kind := .itemDone, subject := handleBits h, axis := x.axis, position := x.capture, detail := itemDetail x 0
    aux1 := BitVec.ofNat 8 x.dropped ++ BitVec.ofNat 8 x.fired, aux2 := x.tag.getD 0 }

/-- ITEM_CANCELLED (11.4.1, R69). -/
def itemCancelledRecord (h : Handle) (x : Item) (removed : Nat) : Report :=
  { kind := .itemCancelled, subject := handleBits h, axis := x.axis, position := x.capture
    detail := itemDetail x removed
    aux1 := BitVec.ofNat 8 x.dropped ++ BitVec.ofNat 8 x.fired, aux2 := x.tag.getD 0 }

/-- VERDICT_DEFAULTED: the verdict applied in bits 0 and 1, tag present in bit 4 (11.4.1, R61). -/
def verdictDefaultedRecord (h : Handle) (v : Verdict) (ax : Axis) (p : Pos) (step : Fin 128)
    (tag : Option Word) : Report :=
  { kind := .verdictDefaulted, subject := handleBits h, axis := ax, position := p
    detail := 0#16 ++ BitVec.ofBool tag.isSome ++ 0#2 ++ verdictBits (some v)
    aux1 := BitVec.ofNat 16 step.val, aux2 := tag.getD 0 }

/-- FIRE_DONE: the fire layout with the end reason, and the on-duration up to 65,535 (11.4.1, R126). -/
def fireDoneRecord (n : Fin 16) (u : Pulse) (reason : EndReason) (t : Pos) : Report :=
  { kind := .fireDone, subject := BitVec.ofNat 16 n.val, axis := .t, position := t
    detail := 0#11 ++ originKindBits (some u.origin) ++ 0#3 ++ BitVec.ofBool u.deferred ++
      BitVec.ofBool u.late ++ endReasonBits reason
    aux1 := originValue (some u.origin)
    aux2 := if (t - u.start).toNat ≤ 65535 then (t - u.start).extractLsb' 0 16 else 65535 }

/-- FIRE_DROPPED: the fire layout with the drop reason (11.4.1, R127). -/
def fireDroppedRecord (n : Fin 16) (q : FiringRequest) (reason : DropReason) : Report :=
  { kind := .fireDropped, subject := BitVec.ofNat 16 n.val, axis := q.axis, position := q.position
    detail := 0#11 ++ originKindBits (some q.origin) ++ 0#4 ++ BitVec.ofBool q.late ++ dropReasonBits reason
    aux1 := originValue (some q.origin), aux2 := 0 }

/-- CMD_REFUSED: the refusal layout. Subject, aux1 and aux2 are by packet kind (11.4.1 to 11.4.3). -/
def cmdRefusedRecord (kind : PacketKind) (reason : Reason) (bankCheck : Nat) (subject aux1 aux2 : Word) :
    Report :=
  { kind := .cmdRefused, subject := subject, axis := .t, position := 0
    detail := 0#8 ++ packetKindBits kind ++ 0#2 ++ BitVec.ofNat 2 bankCheck ++ reasonBits reason
    aux1 := aux1, aux2 := aux2 }

end Sys2Proof.Claims
end

