-- ==== Sys2Proof/Certificates/Slice0/Obligations.lean ====
section
/-!
DEFINITION. The statements for the provers. Each formalises rules of the manual, or, where its docstring says so,
a choice of the model. `Sys2Proof.Claims` holds the terms in which outcomes are said.
-/
open Sys2Proof Sys2Proof.Machine

/-! ### The queue of commands -/

/-- A step runs the command at the front of the queue on the part with the queue's rest; with an empty queue the
part idles, which is the model's choice (notes/assumptions/3.md). -/
def Obligations.StepRunsTheFrontCommand : Prop :=
  (∀ (c : Instr) (rest : List Instr) (s : State),
    step { s with pending := c :: rest } = exec c { s with pending := rest }) ∧
  ∀ s : State, s.pending = [] → step s = .next s

/-- No command stops the part, and none touches the queue of commands. -/
def Obligations.EveryCommandAnswersNextAndKeepsTheQueue : Prop :=
  ∀ (c : Instr) (s : State), ∃ t, exec c s = .next t ∧ t.pending = s.pending

/-! ### Packets in words (chapter 11) -/

/-- Words written out from the tables and examples of chapters 11 and 12 decode to the packets they stand for. -/
def Obligations.WordsOfTheManualDecode : Prop :=
  decodeHeader 3843 0 = .ok (.verdict, 3) ∧
  decodeBody .verdict [2051, 2, 41] = some (.verdict { gen := 8, slot := 3 } .reject 41) ∧
  decodeBody .verdict [2112, 2, 41] = none ∧
  decodeBody .verdict [2051, 0, 41] = none ∧
  decodeHeader 513 0 = .ok (.mark, 1) ∧
  decodeBody .mark [7] = some (.mark 7) ∧
  decodeHeader 3072 1023 = .ok (.copyBank, 0) ∧
  decodeHeader 262 1017 = .ok (.pad, 6) ∧
  decodeHeader 262 1018 = .error .straddle ∧
  decodeHeader 0 0 = .error .unknownKind ∧
  decodeHeader 2055 0 = .ok (.configLine, 7) ∧
  decodeBody .configLine [518, 100, 5000, 257, 513, 20, 500] =
    some (.configLine 6 { policy := .defer, minOff := 100, maxOn := 5000, reports := true }
      { enable := true, settle := 20, interval := 500, threshold := .k2, action := .shutdown }) ∧
  decodeBody .configLine [518, 100, 5000, 257, 769, 20, 500] = none ∧
  decodeBody .lineControl [64, 1] = some (.lineControl 64 .arm) ∧
  decodeBody .configAxis [1025, 257, 256] = none

/-- Every well-formed packet is read back from its words, wherever it fits (R206, R207). -/
def Obligations.PacketsDecodeFromTheirWords : Prop :=
  ∀ (p : Packet) (i : RingIndex), p.wf = true →
    (i.toNat + 1 + p.body.length ≤ 1024 → decodeHeader p.header i = .ok (p.kind, p.body.length)) ∧
    decodeBody p.kind p.body = some p

/-- A body that passes the field checks is that of exactly one well-formed packet of its kind: no bit of it is
dropped. The one exception is PAD, whose body is not read (R207). -/
def Obligations.AcceptedBodiesAreThoseOfPackets : Prop :=
  ∀ (k : PacketKind) (ws : List Word) (p : Packet), decodeBody k ws = some p →
    p.wf = true ∧ p.kind = k ∧ p.body.length = ws.length ∧ (k ≠ .pad → p.body = ws)

/-! ### Resets -/

/-- HARDWARE_RESET leaves every block as its chapter gives, with the levels the inputs hold at release. -/
def Obligations.HardwareResetLeavesTheResetState : Prop :=
  ∀ (p1 p2 : Phases) (di : ByteField) (fb : Word) (s : State), ∃ t,
    exec (.hardwareReset p1 p2 di fb) s = .next t ∧
    t.t = 0 ∧
    (∀ enc : Enc, t.encAxis enc =
      { pos := 0
        cfg := { mode := .halted, divider := 1, policy := .bidirectional, invert := false }
        residue := 0, debt := 0, debtLatch := false, quadError := false
        phases := match enc with | .e1 => p1 | .e2 => p2 }) ∧
    t.tList = [] ∧ t.e1List = [] ∧ t.e2List = [] ∧ t.free = List.range 256 ∧ t.freeCount = 256 ∧
    (∀ i : Fin 64, t.slot i = { gen := 0, item := none }) ∧ t.itemsInUse = 0 ∧
    t.active = .bank0 ∧
    (∀ (b : BankId) (r : Fin 16), (t.bank b).headers[r] =
      { axis := .t, first := 0, count := 0, dflt := .accept }) ∧
    (∀ (b : BankId) (i : Fin 128), (t.bank b).steps[i] =
      { step := { delay := 0, action := .pulse, line := 0, width := 0, unit := .time, cond := .always,
                  repeats := 0, spacing := 0 }, written := false }) ∧
    (∀ n : Fin 8, t.det n =
      { state := .disabled
        cfg := { edge := .rising, qual := 0, recipe := 0, lockAxis := .t, lockDist := 0 }
        lastLevel := di.getLsbD n.val, count := 0, lockoutEnd := 0 }) ∧
    (∀ n : Fin 16, t.line n =
      { state := .disabled
        cfg := { policy := .reject, minOff := 0, maxOn := 0, reports := false }
        mon := { enable := false, settle := 20, interval := 0, threshold := .k2, action := .report }
        slot := none, mismatch := 0, sampleTime := none, lastSense := false, lastFault := .none }) ∧
    (∀ n : Fin 16, t.output n = false) ∧
    t.queue = { records := [], seq := 0 } ∧
    t.irq = { enable := 0, overrun := false, watermark := 48, spaceLevel := 512 } ∧ t.irqN = true ∧
    t.ring.read = 0 ∧ t.ring.publish = 0 ∧ t.ring.fill = 0 ∧ t.ring.free = 1023 ∧
    (∀ i : RingIndex, t.ringWord i = 0) ∧
    t.parser = { state := .stopped, haltCode := .none, haltIndex := 0 } ∧
    t.engine = .run ∧ t.bus.posSelect = .t ∧ t.bus.lineSelect = 0 ∧ t.bus.hold = 0

/-- ENGINE_RESET clears the work in flight in every block, keeps the Recipe Store, and offers no record (R16, R44,
R73, R88, R103, R129, R143, R160, R187, R203). That a detector keeps the last value of its count and of its lockout
end is the model's choice (notes/assumptions/18.md), and so are the FB levels held between ticks
(notes/assumptions/7.md). -/
def Obligations.EngineResetClearsWorkAndKeepsSettings : Prop :=
  ∀ s : State, ∃ t, exec .engineReset s = .next t ∧
    t.t = s.t ∧
    (∀ enc : Enc, t.encAxis enc = { s.encAxis enc with residue := 0, quadError := false }) ∧
    t.tList = [] ∧ t.e1List = [] ∧ t.e2List = [] ∧ t.free = List.range 256 ∧ t.freeCount = 256 ∧
    (∀ i : Fin 64, t.slot i = { gen := (s.slot i).gen, item := none }) ∧ t.itemsInUse = 0 ∧
    (∀ h : Handle, t.findItem h = none) ∧ t.lowestFreeSlot = some 0 ∧
    t.bank0 = s.bank0 ∧ t.bank1 = s.bank1 ∧ t.active = s.active ∧
    (∀ n : Fin 8, t.det n =
      { s.det n with state := if (s.det n).state = .disabled then .disabled else .waiting }) ∧
    (∀ n : Fin 16, t.line n =
      { s.line n with
        state := if (s.line n).busy then .idle else (s.line n).state
        slot := none
        mismatch := 0
        sampleTime := if (s.line n).watching
          then some (s.t + (s.line n).mon.settle.setWidth 32 + 1) else none }) ∧
    t.fb = s.fb ∧ t.queue = { records := [], seq := 0 } ∧
    t.irq = { s.irq with overrun := false } ∧
    t.ring = { s.ring with read := 0, publish := 0, fill := 0 } ∧
    t.parser = { state := .stopped, haltCode := .none, haltIndex := 0 } ∧
    t.engine = .run ∧ t.bus = s.bus

/-- The state after reset meets every invariant that the statements below say each step keeps. The input levels
at release are the model's choice (notes/assumptions/1.md). -/
def Obligations.ResetStateIsSound : Prop :=
  State.reset.AxesSound ∧ State.reset.PoolSound ∧ State.reset.ListsOrdered ∧ State.reset.EntriesPlaced ∧
  State.reset.ItemsSound ∧ State.reset.BanksSound ∧ State.reset.DetectorsSound ∧ State.reset.LinesSound ∧
  State.reset.queue.Sound ∧ State.reset.irq.Sound ∧ State.reset.RingSound ∧ State.reset.EngineSound

/-! ### Invariants of every step -/

/-- Each encoder axis keeps its bounds, divider, residue and debt, and a detector in QUALIFYING never counts past Q
(R8, R9, R10, R92, R94). -/
def Obligations.StepKeepsAxesAndDetectorsInBounds : Prop :=
  (∀ s t : State, s.AxesSound → step s = .next t → t.AxesSound) ∧
  ∀ s t : State, s.DetectorsSound → step s = .next t → t.DetectorsSound

/-- Each of the 256 entries stays on the free list or in exactly one axis list (R18). -/
def Obligations.StepKeepsTheEntryPool : Prop :=
  ∀ s t : State, s.PoolSound → step s = .next t → t.PoolSound

/-- The lists stay ordered by lead, with nothing behind the axis, and every entry stands in the list of its own
axis (R18, R21). -/
def Obligations.StepKeepsTheListsOrdered : Prop :=
  ∀ s t : State, s.ListsOrdered → s.EntriesPlaced → step s = .next t → t.ListsOrdered ∧ t.EntriesPlaced

/-- The pending count of every item stays the number of its entries in the lists, 1 to 16, and no entry carries
the handle of a FREE slot or a stale generation (R50). -/
def Obligations.StepKeepsPendingCounts : Prop :=
  ∀ s t : State, s.ItemsSound → s.BanksSound → step s = .next t → t.ItemsSound

/-- Headers stay in range and the ACTIVE bank stays complete (R76, R83). -/
def Obligations.StepKeepsTheActiveBankComplete : Prop :=
  ∀ s t : State, s.BanksSound → step s = .next t → t.BanksSound

/-- A pending slot is occupied only under DEFER in ACTIVE or RECOVERY, a mismatch count stays below K, and a
channel that is not watching holds no sample time and a count of 0 (R106, R131). -/
def Obligations.StepKeepsLinesSound : Prop :=
  ∀ s t : State, s.LinesSound → step s = .next t → t.LinesSound

/-- At most 64 records are held, at most 60 of them ROUTINE, with consecutive sequences and lost counts of at
most 255; the two levels stay in range (R147, R148, R149, R159). -/
def Obligations.StepKeepsTheReportQueueBounds : Prop :=
  ∀ s t : State, s.queue.Sound → s.irq.Sound → step s = .next t → t.queue.Sound ∧ t.irq.Sound

/-- Publish stays on the path from read to fill, the ring's memory keeps its canonical form, and the parser rests
on the packet that it waits on, holds or has halted at (R163, R170, R171). The canonical form of the memory is the
model's own (notes/assumptions/12.md). -/
def Obligations.StepKeepsTheRingSound : Prop :=
  ∀ s t : State, s.RingSound → step s = .next t → t.RingSound

/-- A QUIESCING engine has work in flight: it enters QUIESCED at the event that leaves the part empty (R200). -/
def Obligations.StepKeepsQuiescingNonEmpty : Prop :=
  ∀ s t : State, s.EngineSound → step s = .next t → t.EngineSound

/-! ### Rules of the whole part -/

/-- With publish on the path from read to fill, the three regions of the ring sum to 1,023 words, and a command
leaves the published words as they stand, HARDWARE_RESET apart (R163). -/
def Obligations.PublishedWordsStay : Prop :=
  (∀ r : Ring, r.PathSound → r.published + r.unpublished + r.free = 1023) ∧
  ∀ (c : Instr) (s t : State), s.ring.PathSound → exec c s = .next t →
    (∀ p q di fb, c ≠ .hardwareReset p q di fb) →
    ∀ k : Nat, k < s.ring.published →
      t.ringWord (s.ring.read + BitVec.ofNat 10 k) = s.ringWord (s.ring.read + BitVec.ofNat 10 k)

/-- An item's verdict, once settled, is the same after any command that leaves the item in its slot (R59). -/
def Obligations.SettledVerdictsDoNotChange : Prop :=
  ∀ (c : Instr) (s t : State) (i : Fin 64) (x y : Item) (d : Verdict × VerdictSource),
    exec c s = .next t → (s.slot i).item = some x → x.decision = some d →
    (t.slot i).item = some y → (t.slot i).gen = (s.slot i).gen → y.decision = some d

/-- T moves by TICK alone, an encoder axis by its own transitions and by PRESET_AXIS alone, the resets of the
hardware apart (R3, R9, R15). -/
def Obligations.OnlyTheseCommandsMoveAnAxis : Prop :=
  ∀ (c : Instr) (s t : State), exec c s = .next t → (∀ p q di fb, c ≠ .hardwareReset p q di fb) →
    ((∀ fb, c ≠ .tick fb) → t.t = s.t) ∧
    ∀ enc : Enc, (∀ ph, c ≠ .quadTransition enc ph) → c ≠ .presetAxis →
      (t.encAxis enc).pos = (s.encAxis enc).pos

/-- No command but HARDWARE_RESET changes the contents of the bank that is ACTIVE when it comes, and none but
SWITCH_BANK exchanges the roles (R75, R83). -/
def Obligations.TheActiveBankIsNotWritten : Prop :=
  ∀ (c : Instr) (s t : State), exec c s = .next t → (∀ p q di fb, c ≠ .hardwareReset p q di fb) →
    t.bank s.active = s.bank s.active ∧ (c ≠ .switchBank → t.active = s.active)

/-- A line's configuration and its monitor fields change in DISABLED alone, by CONFIG_LINE; a FAULTED line leaves
FAULTED by CLEAR_FAULT and DISARM alone; HARDWARE_RESET apart (R107, R123, R132). -/
def Obligations.LinesKeepConfigurationAndFault : Prop :=
  ∀ (c : Instr) (s t : State) (n : Fin 16), exec c s = .next t →
    (∀ p q di fb, c ≠ .hardwareReset p q di fb) →
    (((s.line n).state ≠ .disabled ∨ c ≠ .configLine) →
      (t.line n).cfg = (s.line n).cfg ∧ (t.line n).mon = (s.line n).mon) ∧
    ((s.line n).state = .faulted → c ≠ .clearFault → c ≠ .disarm → (t.line n).state = .faulted)

/-- While the engine is not in RUN, no command admits an item or inserts a host entry: a FREE slot stays FREE with
its generation, and the free count does not fall (R198). RESUME and the resets end that state. -/
def Obligations.NothingIsAdmittedOutsideRun : Prop :=
  ∀ (c : Instr) (s t : State), exec c s = .next t → s.engine ≠ .run → s.PoolSound →
    (∀ p q di fb, c ≠ .hardwareReset p q di fb) →
    (∀ i : Fin 64, (s.slot i).item = none → t.slot i = s.slot i) ∧ s.freeCount ≤ t.freeCount

/-- Records stay in the order of their admission and leave the queue by REPORT_POP and the resets alone: after
any other command those held before stand in front, with their fields and sequences (R147). -/
def Obligations.RecordsStayUntilPopped : Prop :=
  ∀ (c : Instr) (s t : State), exec c s = .next t → (∀ p q di fb, c ≠ .hardwareReset p q di fb) →
    c ≠ .engineReset → (∀ w, c ≠ .reportPop w) → c.wf = true →
    (s.queue.records.map fun r => (r.report, r.seq)) <+: (t.queue.records.map fun r => (r.report, r.seq))

/-! ### The parser -/

/-- A RUNNING parser takes the published word at read as a header: the three checks in order, a halt with
CMD_HALT at the first that fails, and else the header kept (R171, R175, R206). -/
def Obligations.ParserChecksHeaders : Prop :=
  ∀ (s : State) (w : Word), s.parser.state = .running none → 0 < s.ring.published →
    s.ringWord s.ring.read = w →
    exec .parserTakeHeader s =
      .next (match Claims.headerCheck (w.toNat / 256) (w.toNat % 256) s.ring.read.toNat with
        | .none => { s with parser := { s.parser with state := .running (some w) } }
        | code => Claims.halted s code)

/-- A complete packet whose body no well-formed packet of its kind has halts the parser with BAD_FIELD, in every
row that takes the kind, and nothing of it takes effect (R173, R175, R207). That a body whose action is out of range
halts under any row of DETECTOR_CONTROL or of LINE_CONTROL is the model's reading (notes/assumptions/6.md). -/
def Obligations.BadFieldHalts : Prop :=
  ∀ (s : State) (w : Word) (k : PacketKind) (c : Instr), s.parser.state = .running (some w) →
    w.toNat / 256 = k.code → k ≠ .pad → 1 + w.toNat % 256 ≤ s.ring.published →
    (∀ p : Packet, p.wf = true → p.kind = k → p.body ≠ s.bodyWords (w.toNat % 256)) → c ∈ k.rows →
    exec c s = .next (Claims.halted s .badField)

/-- Every packet but FENCE that stands ready is consumed in the event that takes it: read moves past it, the
parser is RUNNING for the next header, and the free space grows by the packet's words (R173, R174). -/
def Obligations.TakenPacketsAreConsumed : Prop :=
  ∀ (s : State) (p : Packet), s.PacketReady p → p.kind ≠ .fence → ∃ t, exec p.row s = .next t ∧
    t.ring = { s.ring with read := s.ring.read + BitVec.ofNat 10 (1 + p.body.length) } ∧
    t.parser = { s.parser with state := .running none } ∧
    (s.ring.PathSound → t.ring.free = s.ring.free + (1 + p.body.length))

/-- PAD is passed over whatever its body holds; MARK offers its record and is passed (R180, R181). -/
def Obligations.PadAndMarkAreTaken : Prop :=
  (∀ (s : State) (n : Nat), s.parser.state = .running (some (Packet.pad n).header) → n ≤ 255 →
    1 + n ≤ s.ring.published →
    exec .pad s = .next { s with
      ring := { s.ring with read := s.ring.read + BitVec.ofNat 10 (1 + n) }
      parser := { s.parser with state := .running none } }) ∧
  ∀ (s : State) (tag : Word), s.PacketReady (.mark tag) →
    exec .mark s = .next { s with
      ring := { s.ring with read := s.ring.read + 2 }
      parser := { s.parser with state := .running none }
      queue := s.queue.offer { kind := .mark, subject := tag, axis := .t, position := s.t
                               detail := 0, aux1 := 0, aux2 := 0 } }

/-- A FENCE passes at once when its condition holds and else holds the parser, which then takes no packet and no
header (R182). -/
def Obligations.FencePassesOrHolds : Prop :=
  (∀ (s : State) (f : FenceFields), s.PacketReady (.fence f) →
    (Claims.FenceHolds s f → exec .fence s = .next { s with
      ring := { s.ring with read := s.ring.read + 6 }
      parser := { s.parser with state := .running none } }) ∧
    (¬ Claims.FenceHolds s f → exec .fence s = .next { s with
      parser := { s.parser with
        state := .fenced
          { fields := f
            expiry := if 1 ≤ f.timeout.toNat then some (s.t + f.timeout.setWidth 32) else none } } })) ∧
  ∀ (s : State) (r : FenceRecord) (p : Packet), s.parser.state = .fenced r →
    exec p.row s = .next s ∧ exec .parserTakeHeader s = .next s

/-- A FENCED parser passes the fence at a notice that finds the condition holding, and at the expiry tick it times
out with FENCE_TIMEOUT, but for a fence on AXIS_REACHED for T whose position is reached by the same advance
(R183, R185). That a FENCE_TIMEOUT which is not due changes nothing is the model's reading
(notes/assumptions/5.md). -/
def Obligations.FenceNoticeAndTimeout : Prop :=
  ∀ (s : State) (r : FenceRecord), s.parser.state = .fenced r →
    (Claims.FenceHolds s r.fields → exec .fenceNotice s = .next (s.passPacket 5)) ∧
    (¬ Claims.FenceHolds s r.fields → exec .fenceNotice s = .next s) ∧
    (r.expiry ≠ some s.t → exec .fenceTimeout s = .next s) ∧
    (r.expiry = some s.t → r.fields.cond = .axisReached → r.fields.axis = .one .t →
      reached s.t r.fields.position = true → exec .fenceTimeout s = .next (s.passPacket 5)) ∧
    (r.expiry = some s.t →
      (r.fields.cond ≠ .axisReached ∨ r.fields.axis ≠ .one .t ∨ reached s.t r.fields.position = false) →
      exec .fenceTimeout s = .next ({ s with
        queue := s.queue.offer
          { kind := .fenceTimeout, subject := s.ring.read.setWidth 16, axis := .t, position := s.t
            detail := BitVec.ofNat 21 (r.fields.cond.code + 256 * r.fields.axis.code)
            aux1 := 0, aux2 := 0 } }.passPacket 5))

/-! ### The ring's registers and the parser's commands -/

/-- RING_DATA stores its word at fill when there is space, and else discards it and sets RING_OVERRUN; RING_PUBLISH of
any value moves publish to fill, and RING_WITHDRAW of any value moves fill back to publish; nothing else changes
(R164, R165, R166). -/
def Obligations.RingDataPublishAndWithdraw : Prop :=
  (∀ (s : State) (w : Word),
     (s.ring.free = 0 → exec (.ringData w) s = .next { s with irq := { s.irq with overrun := true } }) ∧
     (s.ring.PathSound → 1 ≤ s.ring.free →
       ∃ t, exec (.ringData w) s = .next t ∧ { t with ring := s.ring } = s ∧
         t.ring.fill = s.ring.fill + 1 ∧ t.ring.read = s.ring.read ∧ t.ring.publish = s.ring.publish ∧
         t.ringWord s.ring.fill = w ∧ (∀ i : RingIndex, i ≠ s.ring.fill → t.ringWord i = s.ringWord i) ∧
         t.ring.free + 1 = s.ring.free ∧ t.ring.unpublished = s.ring.unpublished + 1)) ∧
  ∀ (s : State) (w : Word),
    exec (.ringPublish w) s = .next { s with ring := { s.ring with publish := s.ring.fill } } ∧
    exec (.ringWithdraw w) s = .next { s with ring := { s.ring with fill := s.ring.publish } } ∧
    (s.ring.fill = s.ring.publish →
      exec (.ringPublish w) s = .next s ∧ exec (.ringWithdraw w) s = .next s) ∧
    (s.ring.PathSound →
      ({ s.ring with fill := s.ring.publish }).free = s.ring.free + s.ring.unpublished ∧
      ({ s.ring with publish := s.ring.fill }).unpublished = 0)

/-- A write to RING_READ is a resync: accepted in STOPPED and HALTED for a value on the path from read to publish,
with the free space risen by the words passed over, and otherwise ignored (R168). -/
def Obligations.ResyncMovesReadOrIsIgnored : Prop :=
  ∀ (s : State) (w : Word),
    ((s.parser.state = .stopped ∨ s.parser.state = .halted) → w.toNat ≤ 1023 →
      (w.toNat + 1024 - s.ring.read.toNat) % 1024 ≤ s.ring.published →
      exec (.resync w) s = .next { s with
        ring := { s.ring with read := w.setWidth 10 }
        parser := { s.parser with state := .stopped } } ∧
      (s.ring.PathSound → ({ s.ring with read := w.setWidth 10 }).free =
        s.ring.free + (w.toNat + 1024 - s.ring.read.toNat) % 1024)) ∧
    (((s.parser.state ≠ .stopped ∧ s.parser.state ≠ .halted) ∨ 1023 < w.toNat ∨
        s.ring.published < (w.toNat + 1024 - s.ring.read.toNat) % 1024) →
      exec (.resync w) s = .next s)

/-- START_PARSER, STOP_PARSER and RING_RESET in every state of the parser (R177, R178, R179). -/
def Obligations.ParserCommands : Prop :=
  ∀ s : State,
    ((s.parser.state = .stopped ∨ s.parser.state = .halted) →
      exec .startParser s = .next { s with parser := { s.parser with state := .running none } }) ∧
    (s.parser.state ≠ .stopped → s.parser.state ≠ .halted → exec .startParser s = .next s) ∧
    (s.parser.state ≠ .stopped → s.parser.state ≠ .halted →
      exec .stopParser s = .next { s with parser := { s.parser with state := .stopped } }) ∧
    ((s.parser.state = .stopped ∨ s.parser.state = .halted) → exec .stopParser s = .next s) ∧
    exec .ringReset s = .next { s with
      ring := { s.ring with read := 0, publish := 0, fill := 0 }
      parser := { state := .stopped, haltCode := .none, haltIndex := 0 } } ∧
    ({ s.ring with read := 0, publish := 0, fill := 0 }).free = 1023

/-! ### The other registers -/

/-- An offered record is admitted behind the tail while fewer records are held than its class allows, and is else
counted on the tail, up to 255 (R148, R149). A write to REPORT_POP, of any value, removes the head record and
nothing else; an empty queue ignores it (R153). The records LINE_FAULT, LINE_OVERTIME, ITEM_DONE, ITEM_CANCELLED,
VERDICT_DEFAULTED, FIRE_DONE, FIRE_DROPPED and CMD_REFUSED, which the other statements offer by name, have the
subject, axis, position, detail bits, aux1 and aux2 that 11.4.1 and 11.4.2 give; and so have the fields by packet
kind of 11.4.3 that are codes, and the detail of FENCE_TIMEOUT. -/
def Obligations.QueueTakesOffersAndPops : Prop :=
  (∀ (q : ReportQueue) (r : Report),
     ((r.kind.cls = .routine ∧ q.records.length < 60 ∨ r.kind.cls = .fault ∧ q.records.length < 64) →
       q.offer r = { records := q.records ++ [{ report := r, seq := q.seq, lost := 0 }], seq := q.seq + 1 }) ∧
     ((r.kind.cls = .routine ∧ 60 ≤ q.records.length ∨ r.kind.cls = .fault ∧ 64 ≤ q.records.length) →
       ∃ front tail, q.records = front ++ [tail] ∧
         q.offer r =
           { records := front ++ [{ tail with lost := if tail.lost < 255 then tail.lost + 1 else 255 }]
             seq := q.seq })) ∧
  (∀ (s : State) (w : Word),
    (s.queue.records = [] → exec (.reportPop w) s = .next s) ∧
    ∀ (r : Record) (rest : List Record), s.queue.records = r :: rest →
      exec (.reportPop w) s = .next { s with queue := { s.queue with records := rest } } ∧
      s.queue.faultCount =
        ({ s.queue with records := rest }).faultCount + (if r.report.kind.cls = .fault then 1 else 0)) ∧
  (∀ n kind action st origin t,
    lineFaultReport n kind action st origin t = Claims.lineFaultRecord n kind action st origin t) ∧
  (∀ n origin t, lineOvertimeReport n origin t = Claims.lineOvertimeRecord n origin t) ∧
  (∀ h x, itemDoneReport h x = Claims.itemDoneRecord h x) ∧
  (∀ h x removed, itemCancelledReport h x removed = Claims.itemCancelledRecord h x removed) ∧
  (∀ h v ax p step tag,
    verdictDefaultedReport h v ax p step tag = Claims.verdictDefaultedRecord h v ax p step tag) ∧
  (∀ n u reason t, fireDoneReport n u reason t = Claims.fireDoneRecord n u reason t) ∧
  (∀ n q reason, fireDroppedReport n q reason = Claims.fireDroppedRecord n q reason) ∧
  (∀ kind reason bankCheck subject aux1 aux2, bankCheck < 4 →
    cmdRefusedReport kind reason bankCheck subject aux1 aux2 =
      Claims.cmdRefusedRecord kind reason bankCheck subject aux1 aux2) ∧
  (∀ h : Handle, h.word = Claims.handleBits h) ∧
  (∀ enc : Enc, BitVec.ofNat 16 enc.code = 0#14 ++ Claims.axisBits enc.axis) ∧
  (∀ v : Verdict, BitVec.ofNat 16 v.code = 0#14 ++ Claims.verdictBits (some v)) ∧
  (∀ a : LineAction, a.code = match a with | .arm => 1 | .disarm => 2 | .clearFault => 3 | .forceOff => 4) ∧
  ∀ (c : FenceCond) (a : FenceAxis), BitVec.ofNat 21 (c.code + 256 * a.code) =
    0#11 ++ (match a with | .one ax => Claims.axisBits ax | .all => 3#2) ++ 0#6 ++
      (match c with | .axisReached => 0#2 | .itemsEmpty => 1#2 | .scheduleEmpty => 2#2 | .linesIdle => 3#2)

/-- IRQ_ENABLE is replaced whole, IRQ_STATUS clears RING_OVERRUN alone, and IRQ_N is low exactly while a cause is
present and enabled, the causes being those of R155 (R155, R157, R158). -/
def Obligations.InterruptRegisters : Prop :=
  ∀ (s : State) (w : Word),
    exec (.irqEnableWrite w) s = .next { s with irq := { s.irq with enable := w.setWidth 7 } } ∧
    (w.getLsbD 6 = true →
      exec (.irqStatusWrite w) s = .next { s with irq := { s.irq with overrun := false } }) ∧
    (w.getLsbD 6 = false → exec (.irqStatusWrite w) s = .next s) ∧
    (s.irqN = false ↔ ∃ k < 7, s.causes.getLsbD k = true ∧ s.irq.enable.getLsbD k = true) ∧
    (s.causes.getLsbD 0 = true ↔ s.queue.records ≠ []) ∧
    (s.causes.getLsbD 1 = true ↔ s.irq.watermark ≤ s.queue.records.length) ∧
    (s.causes.getLsbD 2 = true ↔ ∃ r ∈ s.queue.records, r.report.kind.cls = .fault) ∧
    (s.causes.getLsbD 3 = true ↔ s.irq.spaceLevel ≤ s.ring.free) ∧
    (s.causes.getLsbD 4 = true ↔ s.parser.state = .halted) ∧
    (s.causes.getLsbD 5 = true ↔ s.engine = .quiesced) ∧
    (s.causes.getLsbD 6 = true ↔ s.irq.overrun = true)

/-- REPORT_WATERMARK takes 1 to 64 and RING_SPACE_LEVEL takes 0 to 1,023; POS_SELECT and LINE_SELECT take their
ranges; any other value is ignored (R159, R191, R194). A read of POS_LOW drives the low half of the selected
position and loads the hold word with its high half (R191); the word left on D0–D15 is the model's own field
(notes/assumptions/9.md). A read of any of the 32 registers returns the word that its row of 11.1 and the fields of
11.2 and 11.4 give, bit by bit, and 0 for the five of access W (R152, R189, R192 to R196); the numbers it returns
are whole. -/
def Obligations.RegistersTakeTheirRanges : Prop :=
  (∀ (s : State) (w : Word),
     (1 ≤ w.toNat ∧ w.toNat ≤ 64 →
       exec (.reportWatermarkWrite w) s = .next { s with irq := { s.irq with watermark := w.toNat } }) ∧
     (w.toNat = 0 ∨ 65 ≤ w.toNat → exec (.reportWatermarkWrite w) s = .next s) ∧
     (w.toNat ≤ 1023 →
       exec (.ringSpaceLevelWrite w) s = .next { s with irq := { s.irq with spaceLevel := w.toNat } }) ∧
     (1024 ≤ w.toNat → exec (.ringSpaceLevelWrite w) s = .next s) ∧
     (s.irq.watermark = 1 → s.reportHigh = s.reportPending) ∧
     (s.irq.spaceLevel = 0 → s.ringSpace = true) ∧
     (s.irq.spaceLevel = 1023 → s.ring.PathSound →
       (s.ringSpace = true ↔ s.ring.published = 0 ∧ s.ring.unpublished = 0))) ∧
  ∀ (s : State) (w : Word),
    (∀ ax : Axis, w.toNat = ax.code →
      exec (.posSelectWrite w) s = .next { s with bus := { s.bus with posSelect := ax } }) ∧
    (3 ≤ w.toNat → exec (.posSelectWrite w) s = .next s) ∧
    (∀ n : Fin 16, w.toNat = n.val →
      exec (.lineSelectWrite w) s = .next { s with bus := { s.bus with lineSelect := n } }) ∧
    (16 ≤ w.toNat → exec (.lineSelectWrite w) s = .next s) ∧
    exec .posLowRead s = .next { s with bus := { s.bus with
      data := (s.pos s.bus.posSelect).extractLsb' 0 16
      hold := (s.pos s.bus.posSelect).extractLsb' 16 16 } } ∧
    s.readRegister 0x17 = (s.pos s.bus.posSelect).extractLsb' 0 16 ∧ s.readRegister 0x18 = s.bus.hold ∧
    (s.LinesSound → ∀ offset : BitVec 5, s.readRegister offset = Claims.windowWord s offset) ∧
    (∀ offset ∈ [0x00#5, 0x02#5, 0x03#5, 0x04#5, 0x0D#5], s.readRegister offset = 0) ∧
    (s.queue.records = [] → ∀ n : Nat, n < 8 → s.readRegister (BitVec.ofNat 5 (0x0E + n)) = 0) ∧
    (s.readRegister 0x07).toNat = s.ring.free ∧
    (s.queue.Sound → (s.readRegister 0x0B).toNat = s.queue.records.length) ∧
    (s.readRegister 0x19).toNat = s.itemsInUse ∧
    (s.PoolSound → (s.readRegister 0x1A).toNat = s.freeCount) ∧
    (s.AxesSound → ∀ enc : Enc, s.bus.posSelect = enc.axis → (s.readRegister 0x1E).toNat = (s.encAxis enc).debt)

/-- A bus write that the window ignores, a CMD value that is no code among them, changes nothing (R189, R197). -/
def Obligations.IgnoredWritesChangeNothing : Prop :=
  ∀ (offset : BitVec 5) (w : Word) (s : State), (Instr.registerWriteIgnored offset w).wf = true →
    exec (.registerWriteIgnored offset w) s = .next s

/-! ### Engine Control -/

/-- QUIESCE and RESUME in every engine state (R199, R201). -/
def Obligations.QuiesceAndResume : Prop :=
  ∀ s : State,
    (s.engine = .run → Claims.PartEmpty s →
      exec .quiesce s = .next { s with
        engine := .quiesced
        queue := s.queue.offer { kind := .quiesced, subject := 0, axis := .t, position := s.t
                                 detail := 0, aux1 := 0, aux2 := 0 } }) ∧
    (s.engine = .run → ¬ Claims.PartEmpty s → exec .quiesce s = .next { s with engine := .quiescing }) ∧
    (s.engine ≠ .run → exec .quiesce s = .next s) ∧
    exec .resume s = .next { s with engine := .run } ∧
    ({ s with engine := .run }).engineQuiesced = false

/-! ### Axes -/

/-- In every state TICK advances T by one and takes the levels of FB0–FB15: the events still owed are taken first,
each once by its own row, and then every detector in QUALIFYING counts the tick; the axes, the banks, the interrupt
block, the host bus and the ring's words are as they were, and on a part that owes no event nothing else changes
either (R3, R94). That owed events are taken first, and their order, is the model's choice (notes/assumptions/2.md),
and so are the FB levels that come with the tick (notes/assumptions/7.md) and a count that stands at Q until
QUALIFICATION_COMPLETE is taken (notes/assumptions/8.md). -/
def Obligations.TickAdvancesTime : Prop :=
  (∀ (s : State) (fb : Word), ∃ u t, Claims.Runs s Claims.owedEvents u ∧ exec (.tick fb) s = .next t ∧
    t.t = s.t + 1 ∧ t.fb = fb ∧
    (∀ n : Fin 8, t.det n =
      { u.det n with count :=
          match (u.det n).state with
          | .qualifying _ =>
            if (u.det n).count < (u.det n).cfg.qual.toNat then (u.det n).count + 1 else (u.det n).count
          | _ => (u.det n).count }) ∧
    { t with t := u.t, fb := u.fb, dets := u.dets } = u ∧
    t.enc1 = s.enc1 ∧ t.enc2 = s.enc2 ∧ t.bank0 = s.bank0 ∧ t.bank1 = s.bank1 ∧ t.active = s.active ∧
    t.irq = s.irq ∧ t.bus = s.bus ∧ t.ring.words = s.ring.words ∧ t.ring.publish = s.ring.publish ∧
    t.ring.fill = s.ring.fill) ∧
  ∀ (s : State) (fb : Word), s.Quiet → s.DetectorsSound → ∃ t, exec (.tick fb) s = .next t ∧
    t.t = s.t + 1 ∧ t.fb = fb ∧
    (∀ n : Fin 8, t.det n =
      { s.det n with count :=
          match (s.det n).state with
          | .qualifying _ => (s.det n).count + 1
          | _ => (s.det n).count }) ∧
    { t with t := s.t, fb := s.fb, dets := s.dets } = s

/-- A transition moves its axis as the decoder, the divider and the direction policy give: class, residue, unit,
position or debt, latch and flag; the other axes do not move (R6, R7, R8, R9, R10). A transition that leaves the
position where it stands changes nothing but its own axis and the records it gives rise to: AXIS_QUAD_ERROR at an
error with the flag clear, AXIS_DEBT_LIMIT at a discard with the latch clear (R11, R12). -/
def Obligations.EncoderTransitions : Prop :=
  (∀ (s : State) (enc : Enc) (ph : Phases), ∃ t, exec (.quadTransition enc ph) s = .next t ∧
     t.encAxis enc = Claims.axisAfter (s.encAxis enc) ph ∧ t.t = s.t ∧
     ∀ other : Enc, other ≠ enc → t.encAxis other = s.encAxis other) ∧
  ∀ (s : State) (enc : Enc) (ph : Phases), Claims.movesPosition (s.encAxis enc) ph = false →
    exec (.quadTransition enc ph) s = .next { s.setEncAxis enc (Claims.axisAfter (s.encAxis enc) ph) with
      queue := Claims.offers s.queue (Claims.axisRecords enc (s.encAxis enc) ph) }

/-- On a part that owes no event, a transition that advances the position changes its axis alone, and one that
takes the position back changes its axis, removes and frees the entries that it carries past half the circle, with
their items told, and moves back by one the ends that would pass it: of lockouts and DISTANCE pulses measured on the
axis and of a fence on it (R9, R23, R98, R119, R184). An item told has its pending count lowered by the number of its
entries that expire; one left without an entry retires, with ITEM_DONE, in list order, and its slot is FREE (R34,
R65). A QUIESCING engine that an expiry leaves with an empty part enters QUIESCED, its record last (R43, R200). The
other axes and lists, and everything else, are as they were. -/
def Obligations.PositionChangesOnAQuietPart : Prop :=
  ∀ (s : State) (enc : Enc) (ph : Phases), s.Quiet →
    let a := s.encAxis enc
    let b := Claims.axisAfter a ph
    let half : Pos := a.pos + 2147483648
    let gone := (s.list enc.axis).filter fun e => decide (e.due = half)
    let told := Claims.offers s.queue (Claims.retirements s gone)
    (b.pos = a.pos + 1 → exec (.quadTransition enc ph) s = .next (s.setEncAxis enc b)) ∧
    (b.pos = a.pos - 1 → ∃ t, exec (.quadTransition enc ph) s = .next t ∧ t.encAxis enc = b ∧
      (∀ other : Enc, other ≠ enc → t.encAxis other = s.encAxis other) ∧
      t.list enc.axis = (s.list enc.axis).filter (fun e => decide (e.due ≠ half)) ∧
      (∀ other : Axis, other ≠ enc.axis → t.list other = s.list other) ∧
      t.free = gone.foldl (fun l e => insertFree e.number l) s.free ∧
      t.freeCount = s.freeCount + gone.length ∧
      (∀ i : Fin 64, t.slot i = Claims.slotAfterFreeing s gone i) ∧
      (s.engine ≠ .quiescing ∨ gone = [] ∨ ¬ Claims.PartEmpty t → t.engine = s.engine ∧ t.queue = told) ∧
      (s.engine = .quiescing → gone ≠ [] → Claims.PartEmpty t →
        t.engine = .quiesced ∧ t.queue = told.offer (Claims.quiescedRecord s)) ∧
      (∀ n : Fin 8, t.det n =
        if (s.det n).state = .lockout ∧ (s.det n).cfg.lockAxis = enc.axis ∧ (s.det n).lockoutEnd = half
        then { s.det n with lockoutEnd := half - 1 } else s.det n) ∧
      (∀ n : Fin 16, t.line n =
        match (s.line n).state with
        | .active u =>
          if u.measure = .distance enc ∧ u.endPos = half
          then { s.line n with state := .active { u with endPos := half - 1 } } else s.line n
        | _ => s.line n) ∧
      t.parser =
        (match s.parser.state with
         | .fenced r =>
           if r.fields.cond = .axisReached ∧ r.fields.axis = .one enc.axis ∧ r.fields.position = half
           then { s.parser with
             state := .fenced { r with fields := { r.fields with position := half - 1 } } }
           else s.parser
         | _ => s.parser) ∧
      { t with
        enc1 := s.enc1, enc2 := s.enc2, tList := s.tList, e1List := s.e1List, e2List := s.e2List
        free := s.free, slots := s.slots, queue := s.queue, engine := s.engine, dets := s.dets
        lines := s.lines, parser := s.parser } = s ∧
      ((∀ e ∈ s.list enc.axis, e.due ≠ half) →
        { t with enc1 := s.enc1, enc2 := s.enc2, dets := s.dets, lines := s.lines, parser := s.parser } = s))

/-- CONFIG_AXIS is compared with the axis and taken in the four ways of the table (R14). -/
def Obligations.ConfigAxisFourWays : Prop :=
  ∀ (s : State) (enc : Enc) (c : AxisSettings), s.PacketReady (.configAxis enc c) →
    (c = (s.encAxis enc).cfg → exec .configAxis s = .next (s.passPacket 3)) ∧
    (c ≠ (s.encAxis enc).cfg →
      Claims.OnlyEnables (s.encAxis enc).cfg c ∨ ¬ Claims.InUse s enc →
      exec .configAxis s = .next ((s.setEncAxis enc { s.encAxis enc with
        cfg := c, residue := 0, debt := 0, debtLatch := false, quadError := false }).passPacket 3)) ∧
    (c ≠ (s.encAxis enc).cfg → ¬ Claims.OnlyEnables (s.encAxis enc).cfg c → Claims.InUse s enc →
      exec .configAxis s = .next ({ s with
        queue := s.queue.offer
          (cmdRefusedReport .configAxis .busy 0 (BitVec.ofNat 16 enc.code) 0 0) }.passPacket 3))

/-- PRESET_AXIS sets the position of an axis not in use and clears residue, debt and latch; an axis in use refuses
it BUSY (R15). -/
def Obligations.PresetAxisSetsThePosition : Prop :=
  ∀ (s : State) (enc : Enc) (p : Pos), s.PacketReady (.presetAxis enc p) →
    (¬ Claims.InUse s enc →
      exec .presetAxis s = .next ((s.setEncAxis enc { s.encAxis enc with
        pos := p, residue := 0, debt := 0, debtLatch := false }).passPacket 3)) ∧
    (Claims.InUse s enc →
      exec .presetAxis s = .next ({ s with
        queue := s.queue.offer
          (cmdRefusedReport .presetAxis .busy 0 (BitVec.ofNat 16 enc.code) 0 0) }.passPacket 3))

/-! ### The Schedule -/

/-- After a release pass no entry of the list is reached, wherever the pass began, and no other list, axis, bank
or detector has changed (R21, R24, R33). -/
def Obligations.PassReleasesEverythingDue : Prop :=
  ∀ (s : State) (ax : Axis),
    (s.list ax).Pairwise (fun a b => lead (s.pos ax) a.due ≤ lead (s.pos ax) b.due) →
    ∃ t, exec (.scheduleReleasePass ax) s = .next t ∧
      (∀ e ∈ t.list ax, reached (t.pos ax) e.due = false) ∧
      (t.list ax).Pairwise (fun a b => lead (t.pos ax) a.due ≤ lead (t.pos ax) b.due) ∧
      (∀ other : Axis, other ≠ ax → t.list other = s.list other) ∧
      t.t = s.t ∧ t.enc1 = s.enc1 ∧ t.enc2 = s.enc2 ∧ t.bank0 = s.bank0 ∧ t.bank1 = s.bank1 ∧
      t.active = s.active ∧ t.dets = s.dets ∧ t.ring = s.ring ∧ t.parser = s.parser ∧ t.irq = s.irq ∧
      t.fb = s.fb ∧ t.bus = s.bus

/-- The first release of a pass, of an item entry: the default at a decision point, the condition, the request and
its tally, the late flag, and then the entry freed, with retirement when it was the item's last, or re-inserted at
its next grid point; and of a host entry: the request to its line, and the entry freed or re-inserted, with no item
concerned. The pass goes on from there while a head is reached, by the same clauses; where none is, it ends, and a
QUIESCING engine left with an empty part enters QUIESCED, its record after ITEM_DONE (R24, R25, R26, R27, R29, R30,
R32, R33, R34, R35, R200). -/
def Obligations.ReleaseOfOneEntry : Prop :=
  (∀ (s : State) (ax : Axis) (e : Entry) (rest : List Entry) (h : Handle) (step : Fin 128) (x : Item),
     s.list ax = e :: rest → reached (s.pos ax) e.due = true →
     e.owner = .item h step → s.findItem h = some x →
     let y := Claims.releasedItem s ax e h x
     let records := Claims.releasedRecords s ax e h step x
     let s1 : State := { s with lines := Claims.releasedLines s ax e h x }
     (e.repeats = 0 → 2 ≤ x.pending →
       Claims.PassGoesOnFrom ax s ({ s1 with
         slots := s.slots.set h.slot { gen := h.gen, item := some { y with pending := x.pending - 1 } }
         free := insertFree e.number s.free
         queue := Claims.offers s.queue records }.setList ax rest)) ∧
     (e.repeats = 0 → x.pending = 1 →
       Claims.PassGoesOnFrom ax s ({ s1 with
         slots := s.slots.set h.slot { gen := h.gen, item := none }
         free := insertFree e.number s.free
         queue := Claims.offers s.queue
           (records ++ [itemDoneReport h { y with pending := 0 }]) }.setList ax rest)) ∧
     (e.repeats ≠ 0 →
       Claims.PassGoesOnFrom ax s ({ s1 with
         slots := s.slots.set h.slot { gen := h.gen, item := some y }
         queue := Claims.offers s.queue records }.setList ax
           (insertByLead (s.pos ax)
             { e with due := e.due + e.spacing.setWidth 32, repeats := e.repeats - 1 } rest)))) ∧
  ∀ (s : State) (ax : Axis) (e : Entry) (rest : List Entry) (tag : Word) (line : Fin 16) (width : Word)
    (unit : WidthUnit) (c : Condition),
    s.list ax = e :: rest → reached (s.pos ax) e.due = true →
    e.owner = .host tag → e.action = .pulse line width unit c →
    let q : FiringRequest :=
      { width := width, unit := unit, axis := ax, position := s.pos ax, origin := .host tag
        late := decide (s.pos ax ≠ e.due) }
    let s1 : State :=
      { s with
        lines := s.lines.set line (s.answer line q).1
        queue := Claims.offers s.queue (Claims.dropRecords line q (s.answer line q).2) }
    (e.repeats = 0 →
      Claims.PassGoesOnFrom ax s ({ s1 with free := insertFree e.number s.free }.setList ax rest)) ∧
    (e.repeats ≠ 0 →
      Claims.PassGoesOnFrom ax s (s1.setList ax
        (insertByLead (s.pos ax)
          { e with due := e.due + e.spacing.setWidth 32, repeats := e.repeats - 1 } rest)))

/-- An entry is inserted after every entry of equal or smaller lead and before every entry of greater lead, and the
others keep their order (R22). A position is reached when its distance behind is less than half the circle, and the
lead is the forward distance of one that is not reached, and minus the distance behind of one that is (R1, R21). -/
def Obligations.InsertionIsByLead : Prop :=
  (∀ (p : Pos) (e : Entry) (l : List Entry),
     l.Pairwise (fun a b => lead p a.due ≤ lead p b.due) →
     insertByLead p e l =
       (l.filter fun x => decide (lead p x.due ≤ lead p e.due)) ++
         e :: (l.filter fun x => decide (lead p e.due < lead p x.due))) ∧
  ∀ p q : Pos,
    (reached p q = true ↔ (p.toNat + 4294967296 - q.toNat) % 4294967296 < 2147483648) ∧
    (reached p q = false → lead p q = ((q.toNat + 4294967296 - p.toNat) % 4294967296 : Nat) ∧
      1 ≤ lead p q ∧ lead p q ≤ 2147483648) ∧
    (reached p q = true → lead p q = -((p.toNat + 4294967296 - q.toNat) % 4294967296 : Nat) ∧
      -2147483647 ≤ lead p q ∧ lead p q ≤ 0)

/-- SCHEDULE_FIRE: the three checks in order, an entry that waits, and an entry that is released in the packet's
own pass (R38, R39). In every case the entry takes the lowest free number and is inserted, and the packet's own pass
is the release pass on the list so left, whose releases ReleaseOfOneEntry gives (R22, R24, R33). Whatever repeats it
has, that pass leaves nothing due, and no item, axis, bank or detector is touched (R24, R38). -/
def Obligations.ScheduleFireOutcomes : Prop :=
  ∀ (s : State) (f : FireFields), s.PacketReady (.scheduleFire f) →
    (∀ reason, Claims.fireRefusal s f = some reason →
      exec .scheduleFire s = .next ({ s with
        queue := s.queue.offer (cmdRefusedReport .scheduleFire reason 0 f.tag 0 0) }.passPacket 7)) ∧
    (Claims.fireRefusal s f = none → s.ListQuiet f.axis →
      ∀ (n : Nat) (rest : List Nat), s.free = n :: rest →
      (reached (s.pos f.axis) f.due = false →
        exec .scheduleFire s = .next (({ s with free := rest }.setList f.axis
          (insertByLead (s.pos f.axis) (Claims.hostEntry f n) (s.list f.axis))).passPacket 7)) ∧
      (reached (s.pos f.axis) f.due = true → f.repeats = 0 → (∀ m ∈ rest, n < m) →
        exec .scheduleFire s = .next (({ s with
          lines := s.lines.set f.line (s.answer f.line (Claims.hostRequest f (s.pos f.axis))).1
          queue := Claims.offers s.queue (Claims.dropRecords f.line (Claims.hostRequest f (s.pos f.axis))
            (s.answer f.line (Claims.hostRequest f (s.pos f.axis))).2) }).passPacket 7))) ∧
    (Claims.fireRefusal s f = none → ∀ (n : Nat) (rest : List Nat), s.free = n :: rest →
      ∃ u, exec (.scheduleReleasePass f.axis) ({ s with free := rest }.setList f.axis
          (insertByLead (s.pos f.axis) (Claims.hostEntry f n) (s.list f.axis))) = .next u ∧
        exec .scheduleFire s = .next (u.passPacket 7)) ∧
    (Claims.fireRefusal s f = none →
      (s.list f.axis).Pairwise (fun a b => lead (s.pos f.axis) a.due ≤ lead (s.pos f.axis) b.due) →
      ∃ t, exec .scheduleFire s = .next t ∧
        (∀ e ∈ t.list f.axis, reached (s.pos f.axis) e.due = false) ∧
        (∀ other : Axis, other ≠ f.axis → t.list other = s.list other) ∧
        (s.ListQuiet f.axis → t.slots = s.slots) ∧
        { t with
          tList := s.tList, e1List := s.e1List, e2List := s.e2List, free := s.free, slots := s.slots
          lines := s.lines, queue := s.queue, ring := s.ring, parser := s.parser } = s)

/-- CANCEL_TAG removes and frees every host entry with the tag and no other entry, whatever the engine state; it
makes no report of its own (R40). Nothing else changes, but that a QUIESCING engine which it leaves with an empty
part enters QUIESCED with its record (R43, R200). -/
def Obligations.CancelTagRemovesHostEntries : Prop :=
  ∀ (s : State) (tag : Word), s.PacketReady (.cancelTag tag) → ∃ t, exec .cancelTag s = .next t ∧
    (∀ ax : Axis, t.list ax = (s.list ax).filter fun e => decide (e.owner ≠ .host tag)) ∧
    t.freeCount = s.freeCount + s.allEntries.countP (fun e => decide (e.owner = .host tag)) ∧
    { t with
      tList := s.tList, e1List := s.e1List, e2List := s.e2List, free := s.free, queue := s.queue
      engine := s.engine, ring := s.ring, parser := s.parser } = s ∧
    (s.engine ≠ .quiescing ∨ ¬ Claims.PartEmpty t → t.queue = s.queue ∧ t.engine = s.engine) ∧
    (s.engine = .quiescing → ¬ Claims.PartEmpty s → Claims.PartEmpty t →
      t.engine = .quiesced ∧ t.queue = s.queue.offer
        { kind := .quiesced, subject := 0, axis := .t, position := s.t, detail := 0, aux1 := 0, aux2 := 0 })

/-- CANCEL_ITEM: a stale handle is refused STALE; else the item's entries are removed and freed, ITEM_CANCELLED is
offered with their number, and the slot is FREE with its generation kept (R41, R68, R69). A QUIESCING engine that
it leaves with an empty part enters QUIESCED, its record last (R200). -/
def Obligations.CancelItemRemovesTheItem : Prop :=
  ∀ (s : State) (h : Handle), s.PacketReady (.cancelItem h) →
    (s.findItem h = none →
      exec .cancelItem s = .next ({ s with
        queue := s.queue.offer (cmdRefusedReport .cancelItem .stale 0 h.word 0 0) }.passPacket 1)) ∧
    ∀ x : Item, s.findItem h = some x → ∃ t, exec .cancelItem s = .next t ∧
      (∀ ax : Axis, t.list ax = (s.list ax).filter fun e => !Entry.ofItem h e) ∧
      t.freeCount = s.freeCount + s.allEntries.countP (Entry.ofItem h) ∧
      t.slots = s.slots.set h.slot { gen := h.gen, item := none } ∧
      { t with
        tList := s.tList, e1List := s.e1List, e2List := s.e2List, free := s.free, slots := s.slots
        queue := s.queue, engine := s.engine, ring := s.ring, parser := s.parser } = s ∧
      let cancelled := s.queue.offer (itemCancelledReport h x (s.allEntries.countP (Entry.ofItem h)))
      (s.engine ≠ .quiescing ∨ ¬ Claims.PartEmpty t → t.engine = s.engine ∧ t.queue = cancelled) ∧
      (s.engine = .quiescing → Claims.PartEmpty t →
        t.engine = .quiesced ∧ t.queue = cancelled.offer
          { kind := .quiesced, subject := 0, axis := .t, position := s.t, detail := 0, aux1 := 0, aux2 := 0 })

/-! ### The Item Table -/

/-- VERDICT against the slot its handle names, in every engine state (R58). -/
def Obligations.VerdictOutcomes : Prop :=
  ∀ (s : State) (h : Handle) (v : Verdict) (tag : Word), s.PacketReady (.verdict h v tag) →
    let refused : Reason → State := fun r =>
      { s with
        queue := s.queue.offer
          (cmdRefusedReport .verdict r 0 h.word (BitVec.ofNat 16 v.code) tag) }.passPacket 3
    (((s.slot h.slot).item = none ∨ (s.slot h.slot).gen ≠ h.gen) →
      exec .verdict s = .next (refused .stale)) ∧
    ∀ x : Item, (s.slot h.slot).item = some x → (s.slot h.slot).gen = h.gen →
      (x.decision = none →
        exec .verdict s = .next ({ s with
          slots := s.slots.set h.slot
            { gen := h.gen, item := some { x with decision := some (v, .host), tag := some tag } }
          }.passPacket 3)) ∧
      (∀ u, x.decision = some (u, .default) → exec .verdict s = .next (refused .late)) ∧
      (∀ u, x.decision = some (u, .host) → exec .verdict s = .next (refused .duplicate))

/-- INJECT_ITEM: the four checks in order with a refusal that changes the queue alone; and the item admitted, with
its record and its entries, and then the admission's own pass, which is the release pass on the list so left, whose
releases ReleaseOfOneEntry gives; when nothing of the item is due at once that pass releases nothing (R46, R49, R52,
R53, R54, R55, R24, R33, R36, R86, R87). The pass leaves nothing due, and no axis, bank or detector is touched (R24,
R54). -/
def Obligations.InjectItemAdmitsOrRefuses : Prop :=
  ∀ (s : State) (r : Fin 16) (backdate tag : Word), s.PacketReady (.injectItem r backdate tag) →
    (∀ reason, Claims.refusal s r = some reason →
      exec .injectItem s = .next ({ s with
        queue := s.queue.offer
          (cmdRefusedReport .injectItem reason 0 (BitVec.ofNat 16 r.val) 0 tag) }.passPacket 3)) ∧
    (∀ i : Fin 64, Claims.refusal s r = none → Claims.LowestFree s i →
      Claims.NothingDue s r (s.pos (s.recipe r).axis - backdate.setWidth 32) →
      exec .injectItem s = .next ((Claims.admitted s r .host (some tag)
        (s.pos (s.recipe r).axis - backdate.setWidth 32) i).passPacket 3)) ∧
    (∀ i : Fin 64, Claims.refusal s r = none → Claims.LowestFree s i →
      ∃ u, exec (.scheduleReleasePass (s.recipe r).axis) (Claims.admitted s r .host (some tag)
          (s.pos (s.recipe r).axis - backdate.setWidth 32) i) = .next u ∧
        exec .injectItem s = .next (u.passPacket 3)) ∧
    let ax := (s.recipe r).axis
    (Claims.refusal s r = none →
      (s.list ax).Pairwise (fun a b => lead (s.pos ax) a.due ≤ lead (s.pos ax) b.due) →
      ∃ t, exec .injectItem s = .next t ∧ (∀ e ∈ t.list ax, reached (s.pos ax) e.due = false) ∧
        (∀ other : Axis, other ≠ ax → t.list other = s.list other) ∧
        { t with
          tList := s.tList, e1List := s.e1List, e2List := s.e2List, free := s.free, slots := s.slots
          lines := s.lines, queue := s.queue, ring := s.ring, parser := s.parser } = s)

/-! ### The Recipe Store -/

/-- WRITE_RECIPE, WRITE_STEPS and COPY_BANK write the STAGING bank as they state and nothing else of the store; a
copy of a complete ACTIVE bank passes validation (R78, R79, R80). -/
def Obligations.RecipePacketsWriteStaging : Prop :=
  (∀ (s : State) (r : Fin 16) (h : RecipeHeader), s.PacketReady (.writeRecipe r h) →
    exec .writeRecipe s = .next ((s.setBank s.active.other
      { s.stagingBank with headers := s.stagingBank.headers.set r h }).passPacket 3)) ∧
  (∀ (s : State) (first : Fin 128) (steps : List Step), s.PacketReady (.writeSteps first steps) →
    ∃ t, exec .writeSteps s = .next t ∧ t.active = s.active ∧ t.activeBank = s.activeBank ∧
      t.stagingBank.headers = s.stagingBank.headers ∧
      (∀ i : Fin 128, t.stagingBank.steps[i] =
        if h : first.val ≤ i.val ∧ i.val - first.val < steps.length
        then { step := steps[i.val - first.val]'(h.2), written := true } else s.stagingBank.steps[i]) ∧
      { t with bank0 := s.bank0, bank1 := s.bank1, ring := s.ring, parser := s.parser } = s) ∧
  ∀ s : State, s.PacketReady .copyBank →
    exec .copyBank s = .next ((s.setBank s.active.other s.activeBank).passPacket 0) ∧
    (s.activeBank.validate = none →
      (s.setBank s.active.other s.activeBank).stagingBank.validate = none)

/-- SWITCH_BANK exchanges the roles exactly when every defined recipe of STAGING covers written steps and holds a
PULSE step; else it is refused INVALID_BANK and names the first recipe that fails (R81, R82, R83). -/
def Obligations.SwitchBankValidates : Prop :=
  ∀ s : State, s.PacketReady .switchBank →
    (Claims.BankComplete s.stagingBank →
      exec .switchBank s = .next ({ s with
        active := s.active.other
        queue := s.queue.offer
          { kind := .bankSwitched, subject := BitVec.ofNat 16 s.active.other.code, axis := .t
            position := s.t, detail := 0, aux1 := 0, aux2 := 0 } }.passPacket 0)) ∧
    ∀ r : Fin 16,
      let h := s.stagingBank.headers[r]
      (∀ j : Fin 16, j < r → s.stagingBank.headers[j].count ≠ 0 →
        Claims.RecipeComplete s.stagingBank s.stagingBank.headers[j]) →
      h.count ≠ 0 →
      (∀ k : Nat, k < h.count →
        (s.stagingBank.steps[Fin.ofNat 128 (h.first.val + k)]).written = false →
        (∀ m < k, (s.stagingBank.steps[Fin.ofNat 128 (h.first.val + m)]).written = true) →
        exec .switchBank s = .next ({ s with
          queue := s.queue.offer (cmdRefusedReport .switchBank .invalidBank 1 (BitVec.ofNat 16 r.val)
            (BitVec.ofNat 16 (Fin.ofNat 128 (h.first.val + k)).val) 0) }.passPacket 0)) ∧
      ((∀ k < h.count, (s.stagingBank.steps[Fin.ofNat 128 (h.first.val + k)]).written = true ∧
          (s.stagingBank.steps[Fin.ofNat 128 (h.first.val + k)]).step.action ≠ .pulse) →
        exec .switchBank s = .next ({ s with
          queue := s.queue.offer
            (cmdRefusedReport .switchBank .invalidBank 2 (BitVec.ofNat 16 r.val) 0 0) }.passPacket 0))

/-! ### Detectors -/

/-- DETECTOR_EDGE in each state: a selected edge in WAITING captures the three positions and starts qualification,
and with Q 0 raises the detection event at once; an edge away from the active level in QUALIFYING is a glitch;
every other edge changes the last level alone. LOCKOUT_END returns a detector whose lockout end is reached to
WAITING, and leaves any other detector as it is (R91, R92, R94, R97). That the count stays as it was after a glitch,
and the lockout end after the lockout, is the model's choice (notes/assumptions/18.md), and so is that an edge away
which comes before QUALIFICATION_COMPLETE, at a count that stands at Q, is a glitch still (notes/assumptions/8.md);
that a row whose event is not due changes nothing is its reading (notes/assumptions/5.md). -/
def Obligations.DetectorEdgesAndLockoutEnds : Prop :=
  (∀ (s : State) (n : Fin 8) (level : Bool),
     let d := s.det n
     let selected := level = (match d.cfg.edge with | .rising => true | .falling => false)
     let seen : Detector := { d with lastLevel := level }
     let capture : Capture := { t := s.t, e1 := s.enc1.pos, e2 := s.enc2.pos }
     (level = d.lastLevel → exec (.detectorEdge n level) s = .next s) ∧
     (level ≠ d.lastLevel → d.state = .disabled ∨ d.state = .lockout ∨ d.state = .waiting ∧ ¬ selected →
       exec (.detectorEdge n level) s = .next (s.setDet n seen)) ∧
     (level ≠ d.lastLevel → d.state = .waiting → selected → d.cfg.qual ≠ 0 →
       exec (.detectorEdge n level) s =
         .next (s.setDet n { seen with state := .qualifying capture, count := 0 })) ∧
     (level ≠ d.lastLevel → d.state = .waiting → selected → d.cfg.qual = 0 →
       exec (.detectorEdge n level) s =
         exec (.qualificationComplete n)
           (s.setDet n { seen with state := .qualifying capture, count := 0 })) ∧
     (∀ c, level ≠ d.lastLevel → d.state = .qualifying c → ¬ selected →
       exec (.detectorEdge n level) s = .next (s.setDet n { seen with state := .waiting }))) ∧
  ∀ (s : State) (n : Fin 8),
    ((s.det n).state = .lockout → reached (s.pos (s.det n).cfg.lockAxis) (s.det n).lockoutEnd = true →
      exec (.lockoutEnd n) s = .next (s.setDet n { s.det n with state := .waiting })) ∧
    (((s.det n).state ≠ .lockout ∨ reached (s.pos (s.det n).cfg.lockAxis) (s.det n).lockoutEnd = false) →
      exec (.lockoutEnd n) s = .next s)

/-- QUALIFICATION_COMPLETE of a detector whose count has reached Q: the detector's passage to LOCKOUT or WAITING,
which does not depend on the Item Table; DETECT_REFUSED at a refusal; and the item admitted, and then the
admission's own pass, which is the release pass on the list so left, whose releases ReleaseOfOneEntry gives; when
nothing of the item is due at once that pass releases nothing (R24, R33, R36, R51, R53, R54, R95, R96). The pass
leaves nothing due, and no axis, bank or other detector is touched (R24, R54). That a count of Q waits for the row, and that the detector keeps its
count and its lockout end where its state does not use them, is the model's choice (notes/assumptions/8.md, 18.md). -/
def Obligations.QualificationRaisesTheDetection : Prop :=
  ∀ (s : State) (n : Fin 8) (c : Capture),
    (s.det n).state = .qualifying c → (s.det n).count = (s.det n).cfg.qual.toNat →
    let d := s.det n
    let r := d.cfg.recipe
    let lockEnd := c.on d.cfg.lockAxis + d.cfg.lockDist.setWidth 32
    let after : Detector :=
      { d with
        lockoutEnd := lockEnd
        state := if 1 ≤ d.cfg.lockDist.toNat ∧ reached (s.pos d.cfg.lockAxis) lockEnd = false
          then .lockout else .waiting }
    (∃ t, exec (.qualificationComplete n) s = .next t ∧ t.dets = s.dets.set n after) ∧
    (∀ reason, Claims.refusal s r = some reason →
      exec (.qualificationComplete n) s = .next { s with
        dets := s.dets.set n after
        queue := s.queue.offer
          { kind := .detectRefused, subject := BitVec.ofNat 16 n.val, axis := (s.recipe r).axis
            position := c.on (s.recipe r).axis, detail := BitVec.ofNat 21 reason.code
            aux1 := BitVec.ofNat 16 r.val, aux2 := 0 } }) ∧
    (∀ i : Fin 64, Claims.refusal s r = none → Claims.LowestFree s i →
      Claims.NothingDue s r (c.on (s.recipe r).axis) →
      exec (.qualificationComplete n) s =
        .next { Claims.admitted s r (.detector n) none (c.on (s.recipe r).axis) i with
          dets := s.dets.set n after }) ∧
    (∀ i : Fin 64, Claims.refusal s r = none → Claims.LowestFree s i →
      ∃ u, exec (.scheduleReleasePass (s.recipe r).axis)
          (Claims.admitted s r (.detector n) none (c.on (s.recipe r).axis) i) = .next u ∧
        exec (.qualificationComplete n) s = .next { u with dets := s.dets.set n after }) ∧
    let ax := (s.recipe r).axis
    (Claims.refusal s r = none →
      (s.list ax).Pairwise (fun a b => lead (s.pos ax) a.due ≤ lead (s.pos ax) b.due) →
      ∃ t, exec (.qualificationComplete n) s = .next t ∧ t.dets = s.dets.set n after ∧
        (∀ e ∈ t.list ax, reached (s.pos ax) e.due = false) ∧
        (∀ other : Axis, other ≠ ax → t.list other = s.list other) ∧
        { t with
          tList := s.tList, e1List := s.e1List, e2List := s.e2List, free := s.free, slots := s.slots
          lines := s.lines, queue := s.queue, dets := s.dets } = s)

/-- CONFIG_DETECTOR on a DISABLED detector and on any other; DETECTOR_CONTROL on the masked detectors, each for
itself (R99, R100, R101). That a detector taken to DISABLED keeps the last value of its count and of its lockout end
is the model's choice (notes/assumptions/18.md). -/
def Obligations.DetectorPackets : Prop :=
  (∀ (s : State) (n : Fin 8) (cfg : DetectorConfig), s.PacketReady (.configDetector n cfg) →
    ((s.det n).state = .disabled →
      exec .configDetector s = .next ((s.setDet n { s.det n with cfg := cfg }).passPacket 4)) ∧
    ((s.det n).state ≠ .disabled →
      exec .configDetector s = .next ({ s with
        queue := s.queue.offer
          (cmdRefusedReport .configDetector .busy 0 (BitVec.ofNat 16 n.val) 0 0) }.passPacket 4))) ∧
  (∀ (s : State) (mask : ByteField), s.PacketReady (.detectorControl mask .enable) →
    ∃ t, exec .enable s = .next t ∧
      (∀ n : Fin 8, t.det n =
        if mask.getLsbD n.val = true ∧ (s.det n).state = .disabled then { s.det n with state := .waiting }
        else s.det n) ∧
      { t with dets := s.dets, ring := s.ring, parser := s.parser } = s) ∧
  ∀ (s : State) (mask : ByteField), s.PacketReady (.detectorControl mask .disable) →
    ∃ t, exec .disable s = .next t ∧
      (∀ n : Fin 8, t.det n =
        if mask.getLsbD n.val = true then { s.det n with state := .disabled } else s.det n) ∧
      { t with dets := s.dets, ring := s.ring, parser := s.parser } = s

/-! ### Output lines and their monitor -/

/-- The answer of a line to a firing request in every state and under every policy: the pulse started, extended or
deferred, or the drop with its reason, which changes nothing in the line (R113 to R117). Unit TIME is measured on T,
unit DISTANCE on the request's encoder axis, and each measure reads the position of its axis (R106, R114); the pulse
of a request that has waited is the same but for its DEFERRED flag (R122). A request of unit DISTANCE on T, which no
entry sends, is measured on T: the model's reading (notes/assumptions/17.md). -/
def Obligations.LineAnswers : Prop :=
  ∀ (s : State) (n : Fin 16) (q : FiringRequest),
    let l := s.line n
    let p := s.measurePos q.measure
    ((s.answer n q).1 = l ∨ (s.answer n q).2 = .accepted) ∧
    (l.state = .disabled → s.answer n q = (l, .dropped .disabled)) ∧
    (l.state = .faulted → s.answer n q = (l, .dropped .faulted)) ∧
    (l.state = .idle → s.answer n q =
      ({ l with
          state := .active
            { start := s.t
              measure := q.measure
              endPos := p + q.width.setWidth 32
              guard := if 1 ≤ l.cfg.maxOn.toNat then some (s.t + l.cfg.maxOn.setWidth 32) else none
              origin := q.origin, late := q.late, deferred := false }
          sampleTime := Claims.sampleAfter l s.t }, .accepted)) ∧
    (∀ u, l.state = .active u → l.cfg.policy = .extend → u.measure = q.measure → s.answer n q =
      ({ l with
          state := .active { u with
            endPos := if (u.endPos - p).toNat < q.width.toNat then p + q.width.setWidth 32 else u.endPos
            origin := q.origin, late := q.late, deferred := false } }, .accepted)) ∧
    (∀ u, l.state = .active u → l.cfg.policy = .extend → u.measure ≠ q.measure →
      s.answer n q = (l, .dropped .mismatch)) ∧
    (l.busy = true → l.cfg.policy = .reject → s.answer n q = (l, .dropped .collide)) ∧
    (∀ e, l.state = .recovery e → l.cfg.policy = .extend → s.answer n q = (l, .dropped .collide)) ∧
    (l.busy = true → l.cfg.policy = .defer → l.slot = none →
      s.answer n q = ({ l with slot := some q }, .accepted)) ∧
    (l.busy = true → l.cfg.policy = .defer → l.slot ≠ none → s.answer n q = (l, .dropped .collide)) ∧
    (q.unit = .time → q.measure = .time) ∧
    (∀ enc : Enc, q.unit = .distance → q.axis = enc.axis → q.measure = .distance enc) ∧
    (q.unit = .distance → q.axis = .t → q.measure = .time) ∧
    s.measurePos .time = s.t ∧ (∀ enc : Enc, s.measurePos (.distance enc) = (s.encAxis enc).pos) ∧
    (∀ deferred : Bool, s.pulseFor l q deferred =
      { start := s.t
        measure := q.measure
        endPos := p + q.width.setWidth 32
        guard := if 1 ≤ l.cfg.maxOn.toNat then some (s.t + l.cfg.maxOn.setWidth 32) else none
        origin := q.origin, late := q.late, deferred := deferred }) ∧
    (l.busy = true ↔ (∃ u, l.state = .active u) ∨ ∃ e, l.state = .recovery e)

/-- PULSE_END, MAX_ON_EXPIRY and RECOVERY_END: the pulse that ends NORMAL or OVERTIME with its records, what
follows it, and the end of a recovery (R118, R120, R121, R122). What makes such an event due, and that one which is
not due changes nothing, is the model's reading (notes/assumptions/2.md, 5.md). -/
def Obligations.PulsesAndRecoveriesEnd : Prop :=
  ∀ (s : State) (n : Fin 16),
    let l := s.line n
    (∀ u, l.state = .active u → u.endPos = s.measurePos u.measure →
      exec (.pulseEnd n) s = .next ({ s with
        queue := Claims.offers s.queue (Claims.fireDone s n l u .normal) }.setLine n
          (Claims.lineAfterEnd s l))) ∧
    (∀ u, l.state = .active u → u.endPos ≠ s.measurePos u.measure → exec (.pulseEnd n) s = .next s) ∧
    (∀ u, l.state = .active u → u.guard = some s.t → ¬ (u.measure = .time ∧ u.endPos = s.t) →
      exec (.maxOnExpiry n) s = .next ({ s with
        queue := Claims.offers s.queue
          (lineOvertimeReport n u.origin s.t :: Claims.fireDone s n l u .overtime) }.setLine n
          (Claims.lineAfterEnd s l))) ∧
    (∀ u, l.state = .active u → u.guard = some s.t → u.measure = .time → u.endPos = s.t →
      exec (.maxOnExpiry n) s = exec (.pulseEnd n) s) ∧
    (∀ u, l.state = .active u → u.guard ≠ some s.t → exec (.maxOnExpiry n) s = .next s) ∧
    (∀ q, l.state = .recovery s.t → l.slot = some q →
      exec (.recoveryEnd n) s = .next (s.setLine n { l with
        state := .active (s.pulseFor l q true), slot := none
        sampleTime := Claims.sampleAfter l s.t })) ∧
    (l.state = .recovery s.t → l.slot = none →
      exec (.recoveryEnd n) s = .next (s.setLine n { l with state := .idle })) ∧
    (∀ e, l.state = .recovery e → e ≠ s.t → exec (.recoveryEnd n) s = .next s)

/-- LINE_CONTROL, in the rows ARM, DISARM, CLEAR_FAULT and FORCE_OFF: each masked line takes the action for itself
with its own outcome, the records are offered in order of line, and no other line and nothing else changes (R108 to
R112). CONFIG_LINE replaces all configuration and monitor fields of a DISABLED line, with a count of 0 when a
monitor field changes; any other line refuses it BUSY (R107, R132). -/
def Obligations.LinePackets : Prop :=
  (∀ (s : State) (mask : Word) (a : LineAction), s.PacketReady (.lineControl mask a) →
     ∃ t, exec (Packet.lineControl mask a).row s = .next t ∧
       (∀ n : Fin 16, t.line n =
         if mask.getLsbD n.val then Claims.lineAfter s a (s.line n) else s.line n) ∧
       t.queue = Claims.offers s.queue (Claims.maskedRecords s mask a) ∧
       { t with lines := s.lines, queue := s.queue, ring := s.ring, parser := s.parser } = s) ∧
  ∀ (s : State) (n : Fin 16) (cfg : LineConfig) (mon : MonitorConfig), s.PacketReady (.configLine n cfg mon) →
    ((s.line n).state = .disabled →
      exec .configLine s = .next ((s.setLine n { s.line n with
        cfg := cfg, mon := mon
        mismatch := if mon = (s.line n).mon then (s.line n).mismatch else 0 }).passPacket 7)) ∧
    ((s.line n).state ≠ .disabled →
      exec .configLine s = .next ({ s with
        queue := s.queue.offer
          (cmdRefusedReport .configLine .busy 0 (BitVec.ofNat 16 n.val) 0 0) }.passPacket 7))

/-- MONITOR_SAMPLE of a watching channel whose sample time is now: the sense, the count, the next sample time, and
the fault it may raise with its records in order (R134, R135, R136, R137). The drive is on in ACTIVE alone, a channel
watches while its monitor is on and its line is not DISABLED, and a fault carries the origin of the ACTIVE pulse
(R105, R131, R135). That the level read is the one that came
with the last tick is the model's choice (notes/assumptions/7.md), and that a sample which is not due is not taken is
its reading (notes/assumptions/5.md). -/
def Obligations.MonitorSamples : Prop :=
  ∀ (s : State) (n : Fin 16),
    let l := s.line n
    let sense := s.fb.getLsbD n.val
    (l.watching = true → l.sampleTime = some s.t → Claims.raisesFault l sense = false →
      exec (.monitorSample n) s = .next (s.setLine n (Claims.sampledLine l s.t sense))) ∧
    (l.watching = true → l.sampleTime = some s.t → Claims.raisesFault l sense = true →
      exec (.monitorSample n) s = .next ({ s with
        queue := Claims.offers s.queue (Claims.faultRecords s n l) }.setLine n
          (Claims.faultedLine l s.t sense))) ∧
    ((l.watching = false ∨ l.sampleTime ≠ some s.t) → exec (.monitorSample n) s = .next s) ∧
    s.output n = l.drive ∧ (l.drive = true ↔ ∃ u, l.state = .active u) ∧
    (l.watching = true ↔ l.mon.enable = true ∧ l.state ≠ .disabled) ∧
    (∀ u, l.state = .active u → l.pulseOrigin = some u.origin) ∧ (l.drive = false → l.pulseOrigin = none)
end

