-- ==== Sys2Proof/Laws/State.lean ====
section
/-!
SUPPORT. What each named update leaves of each field of the state: one lemma per field and update, and the reads
of a block after a write of it.
-/
namespace Sys2Proof.Machine

variable (s : State)

/-! ### setEncAxis -/

@[simp] theorem State.setEncAxis_t (enc : Enc) (a : EncAxis) : (s.setEncAxis enc a).t = s.t := by cases enc <;> rfl
@[simp] theorem State.setEncAxis_tList (enc : Enc) (a : EncAxis) : (s.setEncAxis enc a).tList = s.tList :=
  by cases enc <;> rfl
@[simp] theorem State.setEncAxis_e1List (enc : Enc) (a : EncAxis) : (s.setEncAxis enc a).e1List = s.e1List :=
  by cases enc <;> rfl
@[simp] theorem State.setEncAxis_e2List (enc : Enc) (a : EncAxis) : (s.setEncAxis enc a).e2List = s.e2List :=
  by cases enc <;> rfl
@[simp] theorem State.setEncAxis_free (enc : Enc) (a : EncAxis) : (s.setEncAxis enc a).free = s.free :=
  by cases enc <;> rfl
@[simp] theorem State.setEncAxis_slots (enc : Enc) (a : EncAxis) : (s.setEncAxis enc a).slots = s.slots :=
  by cases enc <;> rfl
@[simp] theorem State.setEncAxis_bank0 (enc : Enc) (a : EncAxis) : (s.setEncAxis enc a).bank0 = s.bank0 :=
  by cases enc <;> rfl
@[simp] theorem State.setEncAxis_bank1 (enc : Enc) (a : EncAxis) : (s.setEncAxis enc a).bank1 = s.bank1 :=
  by cases enc <;> rfl
@[simp] theorem State.setEncAxis_active (enc : Enc) (a : EncAxis) : (s.setEncAxis enc a).active = s.active :=
  by cases enc <;> rfl
@[simp] theorem State.setEncAxis_dets (enc : Enc) (a : EncAxis) : (s.setEncAxis enc a).dets = s.dets :=
  by cases enc <;> rfl
@[simp] theorem State.setEncAxis_lines (enc : Enc) (a : EncAxis) : (s.setEncAxis enc a).lines = s.lines :=
  by cases enc <;> rfl
@[simp] theorem State.setEncAxis_fb (enc : Enc) (a : EncAxis) : (s.setEncAxis enc a).fb = s.fb := by cases enc <;> rfl
@[simp] theorem State.setEncAxis_queue (enc : Enc) (a : EncAxis) : (s.setEncAxis enc a).queue = s.queue :=
  by cases enc <;> rfl
@[simp] theorem State.setEncAxis_irq (enc : Enc) (a : EncAxis) : (s.setEncAxis enc a).irq = s.irq :=
  by cases enc <;> rfl
@[simp] theorem State.setEncAxis_ring (enc : Enc) (a : EncAxis) : (s.setEncAxis enc a).ring = s.ring :=
  by cases enc <;> rfl
@[simp] theorem State.setEncAxis_parser (enc : Enc) (a : EncAxis) : (s.setEncAxis enc a).parser = s.parser :=
  by cases enc <;> rfl
@[simp] theorem State.setEncAxis_engine (enc : Enc) (a : EncAxis) : (s.setEncAxis enc a).engine = s.engine :=
  by cases enc <;> rfl
@[simp] theorem State.setEncAxis_bus (enc : Enc) (a : EncAxis) : (s.setEncAxis enc a).bus = s.bus :=
  by cases enc <;> rfl
@[simp] theorem State.setEncAxis_pending (enc : Enc) (a : EncAxis) : (s.setEncAxis enc a).pending = s.pending :=
  by cases enc <;> rfl

/-! ### setList -/

@[simp] theorem State.setList_t (ax : Axis) (l : List Entry) : (s.setList ax l).t = s.t := by cases ax <;> rfl
@[simp] theorem State.setList_enc1 (ax : Axis) (l : List Entry) : (s.setList ax l).enc1 = s.enc1 :=
  by cases ax <;> rfl
@[simp] theorem State.setList_enc2 (ax : Axis) (l : List Entry) : (s.setList ax l).enc2 = s.enc2 :=
  by cases ax <;> rfl
@[simp] theorem State.setList_free (ax : Axis) (l : List Entry) : (s.setList ax l).free = s.free :=
  by cases ax <;> rfl
@[simp] theorem State.setList_slots (ax : Axis) (l : List Entry) : (s.setList ax l).slots = s.slots :=
  by cases ax <;> rfl
@[simp] theorem State.setList_bank0 (ax : Axis) (l : List Entry) : (s.setList ax l).bank0 = s.bank0 :=
  by cases ax <;> rfl
@[simp] theorem State.setList_bank1 (ax : Axis) (l : List Entry) : (s.setList ax l).bank1 = s.bank1 :=
  by cases ax <;> rfl
@[simp] theorem State.setList_active (ax : Axis) (l : List Entry) : (s.setList ax l).active = s.active :=
  by cases ax <;> rfl
@[simp] theorem State.setList_dets (ax : Axis) (l : List Entry) : (s.setList ax l).dets = s.dets :=
  by cases ax <;> rfl
@[simp] theorem State.setList_lines (ax : Axis) (l : List Entry) : (s.setList ax l).lines = s.lines :=
  by cases ax <;> rfl
@[simp] theorem State.setList_fb (ax : Axis) (l : List Entry) : (s.setList ax l).fb = s.fb := by cases ax <;> rfl
@[simp] theorem State.setList_queue (ax : Axis) (l : List Entry) : (s.setList ax l).queue = s.queue :=
  by cases ax <;> rfl
@[simp] theorem State.setList_irq (ax : Axis) (l : List Entry) : (s.setList ax l).irq = s.irq := by cases ax <;> rfl
@[simp] theorem State.setList_ring (ax : Axis) (l : List Entry) : (s.setList ax l).ring = s.ring :=
  by cases ax <;> rfl
@[simp] theorem State.setList_parser (ax : Axis) (l : List Entry) : (s.setList ax l).parser = s.parser :=
  by cases ax <;> rfl
@[simp] theorem State.setList_engine (ax : Axis) (l : List Entry) : (s.setList ax l).engine = s.engine :=
  by cases ax <;> rfl
@[simp] theorem State.setList_bus (ax : Axis) (l : List Entry) : (s.setList ax l).bus = s.bus := by cases ax <;> rfl
@[simp] theorem State.setList_pending (ax : Axis) (l : List Entry) : (s.setList ax l).pending = s.pending :=
  by cases ax <;> rfl

/-! ### setSlot -/

@[simp] theorem State.setSlot_t (i : Fin 64) (x : Slot) : (s.setSlot i x).t = s.t := rfl
@[simp] theorem State.setSlot_enc1 (i : Fin 64) (x : Slot) : (s.setSlot i x).enc1 = s.enc1 := rfl
@[simp] theorem State.setSlot_enc2 (i : Fin 64) (x : Slot) : (s.setSlot i x).enc2 = s.enc2 := rfl
@[simp] theorem State.setSlot_tList (i : Fin 64) (x : Slot) : (s.setSlot i x).tList = s.tList := rfl
@[simp] theorem State.setSlot_e1List (i : Fin 64) (x : Slot) : (s.setSlot i x).e1List = s.e1List := rfl
@[simp] theorem State.setSlot_e2List (i : Fin 64) (x : Slot) : (s.setSlot i x).e2List = s.e2List := rfl
@[simp] theorem State.setSlot_free (i : Fin 64) (x : Slot) : (s.setSlot i x).free = s.free := rfl
@[simp] theorem State.setSlot_bank0 (i : Fin 64) (x : Slot) : (s.setSlot i x).bank0 = s.bank0 := rfl
@[simp] theorem State.setSlot_bank1 (i : Fin 64) (x : Slot) : (s.setSlot i x).bank1 = s.bank1 := rfl
@[simp] theorem State.setSlot_active (i : Fin 64) (x : Slot) : (s.setSlot i x).active = s.active := rfl
@[simp] theorem State.setSlot_dets (i : Fin 64) (x : Slot) : (s.setSlot i x).dets = s.dets := rfl
@[simp] theorem State.setSlot_lines (i : Fin 64) (x : Slot) : (s.setSlot i x).lines = s.lines := rfl
@[simp] theorem State.setSlot_fb (i : Fin 64) (x : Slot) : (s.setSlot i x).fb = s.fb := rfl
@[simp] theorem State.setSlot_queue (i : Fin 64) (x : Slot) : (s.setSlot i x).queue = s.queue := rfl
@[simp] theorem State.setSlot_irq (i : Fin 64) (x : Slot) : (s.setSlot i x).irq = s.irq := rfl
@[simp] theorem State.setSlot_ring (i : Fin 64) (x : Slot) : (s.setSlot i x).ring = s.ring := rfl
@[simp] theorem State.setSlot_parser (i : Fin 64) (x : Slot) : (s.setSlot i x).parser = s.parser := rfl
@[simp] theorem State.setSlot_engine (i : Fin 64) (x : Slot) : (s.setSlot i x).engine = s.engine := rfl
@[simp] theorem State.setSlot_bus (i : Fin 64) (x : Slot) : (s.setSlot i x).bus = s.bus := rfl
@[simp] theorem State.setSlot_pending (i : Fin 64) (x : Slot) : (s.setSlot i x).pending = s.pending := rfl

/-! ### setItem -/

@[simp] theorem State.setItem_t (i : Fin 64) (x : Option Item) : (s.setItem i x).t = s.t := rfl
@[simp] theorem State.setItem_enc1 (i : Fin 64) (x : Option Item) : (s.setItem i x).enc1 = s.enc1 := rfl
@[simp] theorem State.setItem_enc2 (i : Fin 64) (x : Option Item) : (s.setItem i x).enc2 = s.enc2 := rfl
@[simp] theorem State.setItem_tList (i : Fin 64) (x : Option Item) : (s.setItem i x).tList = s.tList := rfl
@[simp] theorem State.setItem_e1List (i : Fin 64) (x : Option Item) : (s.setItem i x).e1List = s.e1List := rfl
@[simp] theorem State.setItem_e2List (i : Fin 64) (x : Option Item) : (s.setItem i x).e2List = s.e2List := rfl
@[simp] theorem State.setItem_free (i : Fin 64) (x : Option Item) : (s.setItem i x).free = s.free := rfl
@[simp] theorem State.setItem_bank0 (i : Fin 64) (x : Option Item) : (s.setItem i x).bank0 = s.bank0 := rfl
@[simp] theorem State.setItem_bank1 (i : Fin 64) (x : Option Item) : (s.setItem i x).bank1 = s.bank1 := rfl
@[simp] theorem State.setItem_active (i : Fin 64) (x : Option Item) : (s.setItem i x).active = s.active := rfl
@[simp] theorem State.setItem_dets (i : Fin 64) (x : Option Item) : (s.setItem i x).dets = s.dets := rfl
@[simp] theorem State.setItem_lines (i : Fin 64) (x : Option Item) : (s.setItem i x).lines = s.lines := rfl
@[simp] theorem State.setItem_fb (i : Fin 64) (x : Option Item) : (s.setItem i x).fb = s.fb := rfl
@[simp] theorem State.setItem_queue (i : Fin 64) (x : Option Item) : (s.setItem i x).queue = s.queue := rfl
@[simp] theorem State.setItem_irq (i : Fin 64) (x : Option Item) : (s.setItem i x).irq = s.irq := rfl
@[simp] theorem State.setItem_ring (i : Fin 64) (x : Option Item) : (s.setItem i x).ring = s.ring := rfl
@[simp] theorem State.setItem_parser (i : Fin 64) (x : Option Item) : (s.setItem i x).parser = s.parser := rfl
@[simp] theorem State.setItem_engine (i : Fin 64) (x : Option Item) : (s.setItem i x).engine = s.engine := rfl
@[simp] theorem State.setItem_bus (i : Fin 64) (x : Option Item) : (s.setItem i x).bus = s.bus := rfl
@[simp] theorem State.setItem_pending (i : Fin 64) (x : Option Item) : (s.setItem i x).pending = s.pending := rfl

/-! ### setBank -/

@[simp] theorem State.setBank_t (b : BankId) (x : Bank) : (s.setBank b x).t = s.t := by cases b <;> rfl
@[simp] theorem State.setBank_enc1 (b : BankId) (x : Bank) : (s.setBank b x).enc1 = s.enc1 := by cases b <;> rfl
@[simp] theorem State.setBank_enc2 (b : BankId) (x : Bank) : (s.setBank b x).enc2 = s.enc2 := by cases b <;> rfl
@[simp] theorem State.setBank_tList (b : BankId) (x : Bank) : (s.setBank b x).tList = s.tList := by cases b <;> rfl
@[simp] theorem State.setBank_e1List (b : BankId) (x : Bank) : (s.setBank b x).e1List = s.e1List := by cases b <;> rfl
@[simp] theorem State.setBank_e2List (b : BankId) (x : Bank) : (s.setBank b x).e2List = s.e2List := by cases b <;> rfl
@[simp] theorem State.setBank_free (b : BankId) (x : Bank) : (s.setBank b x).free = s.free := by cases b <;> rfl
@[simp] theorem State.setBank_slots (b : BankId) (x : Bank) : (s.setBank b x).slots = s.slots := by cases b <;> rfl
@[simp] theorem State.setBank_active (b : BankId) (x : Bank) : (s.setBank b x).active = s.active := by cases b <;> rfl
@[simp] theorem State.setBank_dets (b : BankId) (x : Bank) : (s.setBank b x).dets = s.dets := by cases b <;> rfl
@[simp] theorem State.setBank_lines (b : BankId) (x : Bank) : (s.setBank b x).lines = s.lines := by cases b <;> rfl
@[simp] theorem State.setBank_fb (b : BankId) (x : Bank) : (s.setBank b x).fb = s.fb := by cases b <;> rfl
@[simp] theorem State.setBank_queue (b : BankId) (x : Bank) : (s.setBank b x).queue = s.queue := by cases b <;> rfl
@[simp] theorem State.setBank_irq (b : BankId) (x : Bank) : (s.setBank b x).irq = s.irq := by cases b <;> rfl
@[simp] theorem State.setBank_ring (b : BankId) (x : Bank) : (s.setBank b x).ring = s.ring := by cases b <;> rfl
@[simp] theorem State.setBank_parser (b : BankId) (x : Bank) : (s.setBank b x).parser = s.parser := by cases b <;> rfl
@[simp] theorem State.setBank_engine (b : BankId) (x : Bank) : (s.setBank b x).engine = s.engine := by cases b <;> rfl
@[simp] theorem State.setBank_bus (b : BankId) (x : Bank) : (s.setBank b x).bus = s.bus := by cases b <;> rfl
@[simp] theorem State.setBank_pending (b : BankId) (x : Bank) : (s.setBank b x).pending = s.pending :=
  by cases b <;> rfl

/-! ### setDet -/

@[simp] theorem State.setDet_t (n : Fin 8) (d : Detector) : (s.setDet n d).t = s.t := rfl
@[simp] theorem State.setDet_enc1 (n : Fin 8) (d : Detector) : (s.setDet n d).enc1 = s.enc1 := rfl
@[simp] theorem State.setDet_enc2 (n : Fin 8) (d : Detector) : (s.setDet n d).enc2 = s.enc2 := rfl
@[simp] theorem State.setDet_tList (n : Fin 8) (d : Detector) : (s.setDet n d).tList = s.tList := rfl
@[simp] theorem State.setDet_e1List (n : Fin 8) (d : Detector) : (s.setDet n d).e1List = s.e1List := rfl
@[simp] theorem State.setDet_e2List (n : Fin 8) (d : Detector) : (s.setDet n d).e2List = s.e2List := rfl
@[simp] theorem State.setDet_free (n : Fin 8) (d : Detector) : (s.setDet n d).free = s.free := rfl
@[simp] theorem State.setDet_slots (n : Fin 8) (d : Detector) : (s.setDet n d).slots = s.slots := rfl
@[simp] theorem State.setDet_bank0 (n : Fin 8) (d : Detector) : (s.setDet n d).bank0 = s.bank0 := rfl
@[simp] theorem State.setDet_bank1 (n : Fin 8) (d : Detector) : (s.setDet n d).bank1 = s.bank1 := rfl
@[simp] theorem State.setDet_active (n : Fin 8) (d : Detector) : (s.setDet n d).active = s.active := rfl
@[simp] theorem State.setDet_lines (n : Fin 8) (d : Detector) : (s.setDet n d).lines = s.lines := rfl
@[simp] theorem State.setDet_fb (n : Fin 8) (d : Detector) : (s.setDet n d).fb = s.fb := rfl
@[simp] theorem State.setDet_queue (n : Fin 8) (d : Detector) : (s.setDet n d).queue = s.queue := rfl
@[simp] theorem State.setDet_irq (n : Fin 8) (d : Detector) : (s.setDet n d).irq = s.irq := rfl
@[simp] theorem State.setDet_ring (n : Fin 8) (d : Detector) : (s.setDet n d).ring = s.ring := rfl
@[simp] theorem State.setDet_parser (n : Fin 8) (d : Detector) : (s.setDet n d).parser = s.parser := rfl
@[simp] theorem State.setDet_engine (n : Fin 8) (d : Detector) : (s.setDet n d).engine = s.engine := rfl
@[simp] theorem State.setDet_bus (n : Fin 8) (d : Detector) : (s.setDet n d).bus = s.bus := rfl
@[simp] theorem State.setDet_pending (n : Fin 8) (d : Detector) : (s.setDet n d).pending = s.pending := rfl

/-! ### setLine -/

@[simp] theorem State.setLine_t (n : Fin 16) (l : Line) : (s.setLine n l).t = s.t := rfl
@[simp] theorem State.setLine_enc1 (n : Fin 16) (l : Line) : (s.setLine n l).enc1 = s.enc1 := rfl
@[simp] theorem State.setLine_enc2 (n : Fin 16) (l : Line) : (s.setLine n l).enc2 = s.enc2 := rfl
@[simp] theorem State.setLine_tList (n : Fin 16) (l : Line) : (s.setLine n l).tList = s.tList := rfl
@[simp] theorem State.setLine_e1List (n : Fin 16) (l : Line) : (s.setLine n l).e1List = s.e1List := rfl
@[simp] theorem State.setLine_e2List (n : Fin 16) (l : Line) : (s.setLine n l).e2List = s.e2List := rfl
@[simp] theorem State.setLine_free (n : Fin 16) (l : Line) : (s.setLine n l).free = s.free := rfl
@[simp] theorem State.setLine_slots (n : Fin 16) (l : Line) : (s.setLine n l).slots = s.slots := rfl
@[simp] theorem State.setLine_bank0 (n : Fin 16) (l : Line) : (s.setLine n l).bank0 = s.bank0 := rfl
@[simp] theorem State.setLine_bank1 (n : Fin 16) (l : Line) : (s.setLine n l).bank1 = s.bank1 := rfl
@[simp] theorem State.setLine_active (n : Fin 16) (l : Line) : (s.setLine n l).active = s.active := rfl
@[simp] theorem State.setLine_dets (n : Fin 16) (l : Line) : (s.setLine n l).dets = s.dets := rfl
@[simp] theorem State.setLine_fb (n : Fin 16) (l : Line) : (s.setLine n l).fb = s.fb := rfl
@[simp] theorem State.setLine_queue (n : Fin 16) (l : Line) : (s.setLine n l).queue = s.queue := rfl
@[simp] theorem State.setLine_irq (n : Fin 16) (l : Line) : (s.setLine n l).irq = s.irq := rfl
@[simp] theorem State.setLine_ring (n : Fin 16) (l : Line) : (s.setLine n l).ring = s.ring := rfl
@[simp] theorem State.setLine_parser (n : Fin 16) (l : Line) : (s.setLine n l).parser = s.parser := rfl
@[simp] theorem State.setLine_engine (n : Fin 16) (l : Line) : (s.setLine n l).engine = s.engine := rfl
@[simp] theorem State.setLine_bus (n : Fin 16) (l : Line) : (s.setLine n l).bus = s.bus := rfl
@[simp] theorem State.setLine_pending (n : Fin 16) (l : Line) : (s.setLine n l).pending = s.pending := rfl

/-! ### mapDets -/

@[simp] theorem State.mapDets_t (f : Detector → Detector) : (s.mapDets f).t = s.t := rfl
@[simp] theorem State.mapDets_enc1 (f : Detector → Detector) : (s.mapDets f).enc1 = s.enc1 := rfl
@[simp] theorem State.mapDets_enc2 (f : Detector → Detector) : (s.mapDets f).enc2 = s.enc2 := rfl
@[simp] theorem State.mapDets_tList (f : Detector → Detector) : (s.mapDets f).tList = s.tList := rfl
@[simp] theorem State.mapDets_e1List (f : Detector → Detector) : (s.mapDets f).e1List = s.e1List := rfl
@[simp] theorem State.mapDets_e2List (f : Detector → Detector) : (s.mapDets f).e2List = s.e2List := rfl
@[simp] theorem State.mapDets_free (f : Detector → Detector) : (s.mapDets f).free = s.free := rfl
@[simp] theorem State.mapDets_slots (f : Detector → Detector) : (s.mapDets f).slots = s.slots := rfl
@[simp] theorem State.mapDets_bank0 (f : Detector → Detector) : (s.mapDets f).bank0 = s.bank0 := rfl
@[simp] theorem State.mapDets_bank1 (f : Detector → Detector) : (s.mapDets f).bank1 = s.bank1 := rfl
@[simp] theorem State.mapDets_active (f : Detector → Detector) : (s.mapDets f).active = s.active := rfl
@[simp] theorem State.mapDets_lines (f : Detector → Detector) : (s.mapDets f).lines = s.lines := rfl
@[simp] theorem State.mapDets_fb (f : Detector → Detector) : (s.mapDets f).fb = s.fb := rfl
@[simp] theorem State.mapDets_queue (f : Detector → Detector) : (s.mapDets f).queue = s.queue := rfl
@[simp] theorem State.mapDets_irq (f : Detector → Detector) : (s.mapDets f).irq = s.irq := rfl
@[simp] theorem State.mapDets_ring (f : Detector → Detector) : (s.mapDets f).ring = s.ring := rfl
@[simp] theorem State.mapDets_parser (f : Detector → Detector) : (s.mapDets f).parser = s.parser := rfl
@[simp] theorem State.mapDets_engine (f : Detector → Detector) : (s.mapDets f).engine = s.engine := rfl
@[simp] theorem State.mapDets_bus (f : Detector → Detector) : (s.mapDets f).bus = s.bus := rfl
@[simp] theorem State.mapDets_pending (f : Detector → Detector) : (s.mapDets f).pending = s.pending := rfl

/-! ### mapLines -/

@[simp] theorem State.mapLines_t (f : Line → Line) : (s.mapLines f).t = s.t := rfl
@[simp] theorem State.mapLines_enc1 (f : Line → Line) : (s.mapLines f).enc1 = s.enc1 := rfl
@[simp] theorem State.mapLines_enc2 (f : Line → Line) : (s.mapLines f).enc2 = s.enc2 := rfl
@[simp] theorem State.mapLines_tList (f : Line → Line) : (s.mapLines f).tList = s.tList := rfl
@[simp] theorem State.mapLines_e1List (f : Line → Line) : (s.mapLines f).e1List = s.e1List := rfl
@[simp] theorem State.mapLines_e2List (f : Line → Line) : (s.mapLines f).e2List = s.e2List := rfl
@[simp] theorem State.mapLines_free (f : Line → Line) : (s.mapLines f).free = s.free := rfl
@[simp] theorem State.mapLines_slots (f : Line → Line) : (s.mapLines f).slots = s.slots := rfl
@[simp] theorem State.mapLines_bank0 (f : Line → Line) : (s.mapLines f).bank0 = s.bank0 := rfl
@[simp] theorem State.mapLines_bank1 (f : Line → Line) : (s.mapLines f).bank1 = s.bank1 := rfl
@[simp] theorem State.mapLines_active (f : Line → Line) : (s.mapLines f).active = s.active := rfl
@[simp] theorem State.mapLines_dets (f : Line → Line) : (s.mapLines f).dets = s.dets := rfl
@[simp] theorem State.mapLines_fb (f : Line → Line) : (s.mapLines f).fb = s.fb := rfl
@[simp] theorem State.mapLines_queue (f : Line → Line) : (s.mapLines f).queue = s.queue := rfl
@[simp] theorem State.mapLines_irq (f : Line → Line) : (s.mapLines f).irq = s.irq := rfl
@[simp] theorem State.mapLines_ring (f : Line → Line) : (s.mapLines f).ring = s.ring := rfl
@[simp] theorem State.mapLines_parser (f : Line → Line) : (s.mapLines f).parser = s.parser := rfl
@[simp] theorem State.mapLines_engine (f : Line → Line) : (s.mapLines f).engine = s.engine := rfl
@[simp] theorem State.mapLines_bus (f : Line → Line) : (s.mapLines f).bus = s.bus := rfl
@[simp] theorem State.mapLines_pending (f : Line → Line) : (s.mapLines f).pending = s.pending := rfl

/-! ### mapSlots -/

@[simp] theorem State.mapSlots_t (f : Slot → Slot) : (s.mapSlots f).t = s.t := rfl
@[simp] theorem State.mapSlots_enc1 (f : Slot → Slot) : (s.mapSlots f).enc1 = s.enc1 := rfl
@[simp] theorem State.mapSlots_enc2 (f : Slot → Slot) : (s.mapSlots f).enc2 = s.enc2 := rfl
@[simp] theorem State.mapSlots_tList (f : Slot → Slot) : (s.mapSlots f).tList = s.tList := rfl
@[simp] theorem State.mapSlots_e1List (f : Slot → Slot) : (s.mapSlots f).e1List = s.e1List := rfl
@[simp] theorem State.mapSlots_e2List (f : Slot → Slot) : (s.mapSlots f).e2List = s.e2List := rfl
@[simp] theorem State.mapSlots_free (f : Slot → Slot) : (s.mapSlots f).free = s.free := rfl
@[simp] theorem State.mapSlots_bank0 (f : Slot → Slot) : (s.mapSlots f).bank0 = s.bank0 := rfl
@[simp] theorem State.mapSlots_bank1 (f : Slot → Slot) : (s.mapSlots f).bank1 = s.bank1 := rfl
@[simp] theorem State.mapSlots_active (f : Slot → Slot) : (s.mapSlots f).active = s.active := rfl
@[simp] theorem State.mapSlots_dets (f : Slot → Slot) : (s.mapSlots f).dets = s.dets := rfl
@[simp] theorem State.mapSlots_lines (f : Slot → Slot) : (s.mapSlots f).lines = s.lines := rfl
@[simp] theorem State.mapSlots_fb (f : Slot → Slot) : (s.mapSlots f).fb = s.fb := rfl
@[simp] theorem State.mapSlots_queue (f : Slot → Slot) : (s.mapSlots f).queue = s.queue := rfl
@[simp] theorem State.mapSlots_irq (f : Slot → Slot) : (s.mapSlots f).irq = s.irq := rfl
@[simp] theorem State.mapSlots_ring (f : Slot → Slot) : (s.mapSlots f).ring = s.ring := rfl
@[simp] theorem State.mapSlots_parser (f : Slot → Slot) : (s.mapSlots f).parser = s.parser := rfl
@[simp] theorem State.mapSlots_engine (f : Slot → Slot) : (s.mapSlots f).engine = s.engine := rfl
@[simp] theorem State.mapSlots_bus (f : Slot → Slot) : (s.mapSlots f).bus = s.bus := rfl
@[simp] theorem State.mapSlots_pending (f : Slot → Slot) : (s.mapSlots f).pending = s.pending := rfl

/-! ### offer -/

@[simp] theorem State.offer_t (r : Report) : (s.offer r).t = s.t := rfl
@[simp] theorem State.offer_enc1 (r : Report) : (s.offer r).enc1 = s.enc1 := rfl
@[simp] theorem State.offer_enc2 (r : Report) : (s.offer r).enc2 = s.enc2 := rfl
@[simp] theorem State.offer_tList (r : Report) : (s.offer r).tList = s.tList := rfl
@[simp] theorem State.offer_e1List (r : Report) : (s.offer r).e1List = s.e1List := rfl
@[simp] theorem State.offer_e2List (r : Report) : (s.offer r).e2List = s.e2List := rfl
@[simp] theorem State.offer_free (r : Report) : (s.offer r).free = s.free := rfl
@[simp] theorem State.offer_slots (r : Report) : (s.offer r).slots = s.slots := rfl
@[simp] theorem State.offer_bank0 (r : Report) : (s.offer r).bank0 = s.bank0 := rfl
@[simp] theorem State.offer_bank1 (r : Report) : (s.offer r).bank1 = s.bank1 := rfl
@[simp] theorem State.offer_active (r : Report) : (s.offer r).active = s.active := rfl
@[simp] theorem State.offer_dets (r : Report) : (s.offer r).dets = s.dets := rfl
@[simp] theorem State.offer_lines (r : Report) : (s.offer r).lines = s.lines := rfl
@[simp] theorem State.offer_fb (r : Report) : (s.offer r).fb = s.fb := rfl
@[simp] theorem State.offer_irq (r : Report) : (s.offer r).irq = s.irq := rfl
@[simp] theorem State.offer_ring (r : Report) : (s.offer r).ring = s.ring := rfl
@[simp] theorem State.offer_parser (r : Report) : (s.offer r).parser = s.parser := rfl
@[simp] theorem State.offer_engine (r : Report) : (s.offer r).engine = s.engine := rfl
@[simp] theorem State.offer_bus (r : Report) : (s.offer r).bus = s.bus := rfl
@[simp] theorem State.offer_pending (r : Report) : (s.offer r).pending = s.pending := rfl

/-! ### setParser -/

@[simp] theorem State.setParser_t (st : ParserState) : (s.setParser st).t = s.t := rfl
@[simp] theorem State.setParser_enc1 (st : ParserState) : (s.setParser st).enc1 = s.enc1 := rfl
@[simp] theorem State.setParser_enc2 (st : ParserState) : (s.setParser st).enc2 = s.enc2 := rfl
@[simp] theorem State.setParser_tList (st : ParserState) : (s.setParser st).tList = s.tList := rfl
@[simp] theorem State.setParser_e1List (st : ParserState) : (s.setParser st).e1List = s.e1List := rfl
@[simp] theorem State.setParser_e2List (st : ParserState) : (s.setParser st).e2List = s.e2List := rfl
@[simp] theorem State.setParser_free (st : ParserState) : (s.setParser st).free = s.free := rfl
@[simp] theorem State.setParser_slots (st : ParserState) : (s.setParser st).slots = s.slots := rfl
@[simp] theorem State.setParser_bank0 (st : ParserState) : (s.setParser st).bank0 = s.bank0 := rfl
@[simp] theorem State.setParser_bank1 (st : ParserState) : (s.setParser st).bank1 = s.bank1 := rfl
@[simp] theorem State.setParser_active (st : ParserState) : (s.setParser st).active = s.active := rfl
@[simp] theorem State.setParser_dets (st : ParserState) : (s.setParser st).dets = s.dets := rfl
@[simp] theorem State.setParser_lines (st : ParserState) : (s.setParser st).lines = s.lines := rfl
@[simp] theorem State.setParser_fb (st : ParserState) : (s.setParser st).fb = s.fb := rfl
@[simp] theorem State.setParser_queue (st : ParserState) : (s.setParser st).queue = s.queue := rfl
@[simp] theorem State.setParser_irq (st : ParserState) : (s.setParser st).irq = s.irq := rfl
@[simp] theorem State.setParser_ring (st : ParserState) : (s.setParser st).ring = s.ring := rfl
@[simp] theorem State.setParser_engine (st : ParserState) : (s.setParser st).engine = s.engine := rfl
@[simp] theorem State.setParser_bus (st : ParserState) : (s.setParser st).bus = s.bus := rfl
@[simp] theorem State.setParser_pending (st : ParserState) : (s.setParser st).pending = s.pending := rfl

/-! ### advanceRead -/

@[simp] theorem State.advanceRead_t (n : Nat) : (s.advanceRead n).t = s.t := rfl
@[simp] theorem State.advanceRead_enc1 (n : Nat) : (s.advanceRead n).enc1 = s.enc1 := rfl
@[simp] theorem State.advanceRead_enc2 (n : Nat) : (s.advanceRead n).enc2 = s.enc2 := rfl
@[simp] theorem State.advanceRead_tList (n : Nat) : (s.advanceRead n).tList = s.tList := rfl
@[simp] theorem State.advanceRead_e1List (n : Nat) : (s.advanceRead n).e1List = s.e1List := rfl
@[simp] theorem State.advanceRead_e2List (n : Nat) : (s.advanceRead n).e2List = s.e2List := rfl
@[simp] theorem State.advanceRead_free (n : Nat) : (s.advanceRead n).free = s.free := rfl
@[simp] theorem State.advanceRead_slots (n : Nat) : (s.advanceRead n).slots = s.slots := rfl
@[simp] theorem State.advanceRead_bank0 (n : Nat) : (s.advanceRead n).bank0 = s.bank0 := rfl
@[simp] theorem State.advanceRead_bank1 (n : Nat) : (s.advanceRead n).bank1 = s.bank1 := rfl
@[simp] theorem State.advanceRead_active (n : Nat) : (s.advanceRead n).active = s.active := rfl
@[simp] theorem State.advanceRead_dets (n : Nat) : (s.advanceRead n).dets = s.dets := rfl
@[simp] theorem State.advanceRead_lines (n : Nat) : (s.advanceRead n).lines = s.lines := rfl
@[simp] theorem State.advanceRead_fb (n : Nat) : (s.advanceRead n).fb = s.fb := rfl
@[simp] theorem State.advanceRead_queue (n : Nat) : (s.advanceRead n).queue = s.queue := rfl
@[simp] theorem State.advanceRead_irq (n : Nat) : (s.advanceRead n).irq = s.irq := rfl
@[simp] theorem State.advanceRead_parser (n : Nat) : (s.advanceRead n).parser = s.parser := rfl
@[simp] theorem State.advanceRead_engine (n : Nat) : (s.advanceRead n).engine = s.engine := rfl
@[simp] theorem State.advanceRead_bus (n : Nat) : (s.advanceRead n).bus = s.bus := rfl
@[simp] theorem State.advanceRead_pending (n : Nat) : (s.advanceRead n).pending = s.pending := rfl

/-! ### passPacket -/

@[simp] theorem State.passPacket_t (n : Nat) : (s.passPacket n).t = s.t := rfl
@[simp] theorem State.passPacket_enc1 (n : Nat) : (s.passPacket n).enc1 = s.enc1 := rfl
@[simp] theorem State.passPacket_enc2 (n : Nat) : (s.passPacket n).enc2 = s.enc2 := rfl
@[simp] theorem State.passPacket_tList (n : Nat) : (s.passPacket n).tList = s.tList := rfl
@[simp] theorem State.passPacket_e1List (n : Nat) : (s.passPacket n).e1List = s.e1List := rfl
@[simp] theorem State.passPacket_e2List (n : Nat) : (s.passPacket n).e2List = s.e2List := rfl
@[simp] theorem State.passPacket_free (n : Nat) : (s.passPacket n).free = s.free := rfl
@[simp] theorem State.passPacket_slots (n : Nat) : (s.passPacket n).slots = s.slots := rfl
@[simp] theorem State.passPacket_bank0 (n : Nat) : (s.passPacket n).bank0 = s.bank0 := rfl
@[simp] theorem State.passPacket_bank1 (n : Nat) : (s.passPacket n).bank1 = s.bank1 := rfl
@[simp] theorem State.passPacket_active (n : Nat) : (s.passPacket n).active = s.active := rfl
@[simp] theorem State.passPacket_dets (n : Nat) : (s.passPacket n).dets = s.dets := rfl
@[simp] theorem State.passPacket_lines (n : Nat) : (s.passPacket n).lines = s.lines := rfl
@[simp] theorem State.passPacket_fb (n : Nat) : (s.passPacket n).fb = s.fb := rfl
@[simp] theorem State.passPacket_queue (n : Nat) : (s.passPacket n).queue = s.queue := rfl
@[simp] theorem State.passPacket_irq (n : Nat) : (s.passPacket n).irq = s.irq := rfl
@[simp] theorem State.passPacket_engine (n : Nat) : (s.passPacket n).engine = s.engine := rfl
@[simp] theorem State.passPacket_bus (n : Nat) : (s.passPacket n).bus = s.bus := rfl
@[simp] theorem State.passPacket_pending (n : Nat) : (s.passPacket n).pending = s.pending := rfl

/-! ### freeNumber -/

@[simp] theorem State.freeNumber_t (n : Nat) : (s.freeNumber n).t = s.t := rfl
@[simp] theorem State.freeNumber_enc1 (n : Nat) : (s.freeNumber n).enc1 = s.enc1 := rfl
@[simp] theorem State.freeNumber_enc2 (n : Nat) : (s.freeNumber n).enc2 = s.enc2 := rfl
@[simp] theorem State.freeNumber_tList (n : Nat) : (s.freeNumber n).tList = s.tList := rfl
@[simp] theorem State.freeNumber_e1List (n : Nat) : (s.freeNumber n).e1List = s.e1List := rfl
@[simp] theorem State.freeNumber_e2List (n : Nat) : (s.freeNumber n).e2List = s.e2List := rfl
@[simp] theorem State.freeNumber_slots (n : Nat) : (s.freeNumber n).slots = s.slots := rfl
@[simp] theorem State.freeNumber_bank0 (n : Nat) : (s.freeNumber n).bank0 = s.bank0 := rfl
@[simp] theorem State.freeNumber_bank1 (n : Nat) : (s.freeNumber n).bank1 = s.bank1 := rfl
@[simp] theorem State.freeNumber_active (n : Nat) : (s.freeNumber n).active = s.active := rfl
@[simp] theorem State.freeNumber_dets (n : Nat) : (s.freeNumber n).dets = s.dets := rfl
@[simp] theorem State.freeNumber_lines (n : Nat) : (s.freeNumber n).lines = s.lines := rfl
@[simp] theorem State.freeNumber_fb (n : Nat) : (s.freeNumber n).fb = s.fb := rfl
@[simp] theorem State.freeNumber_queue (n : Nat) : (s.freeNumber n).queue = s.queue := rfl
@[simp] theorem State.freeNumber_irq (n : Nat) : (s.freeNumber n).irq = s.irq := rfl
@[simp] theorem State.freeNumber_ring (n : Nat) : (s.freeNumber n).ring = s.ring := rfl
@[simp] theorem State.freeNumber_parser (n : Nat) : (s.freeNumber n).parser = s.parser := rfl
@[simp] theorem State.freeNumber_engine (n : Nat) : (s.freeNumber n).engine = s.engine := rfl
@[simp] theorem State.freeNumber_bus (n : Nat) : (s.freeNumber n).bus = s.bus := rfl
@[simp] theorem State.freeNumber_pending (n : Nat) : (s.freeNumber n).pending = s.pending := rfl

/-! ### insert -/

@[simp] theorem State.insert_t (ax : Axis) (e : Entry) : (s.insert ax e).t = s.t := by cases ax <;> rfl
@[simp] theorem State.insert_enc1 (ax : Axis) (e : Entry) : (s.insert ax e).enc1 = s.enc1 := by cases ax <;> rfl
@[simp] theorem State.insert_enc2 (ax : Axis) (e : Entry) : (s.insert ax e).enc2 = s.enc2 := by cases ax <;> rfl
@[simp] theorem State.insert_free (ax : Axis) (e : Entry) : (s.insert ax e).free = s.free := by cases ax <;> rfl
@[simp] theorem State.insert_slots (ax : Axis) (e : Entry) : (s.insert ax e).slots = s.slots := by cases ax <;> rfl
@[simp] theorem State.insert_bank0 (ax : Axis) (e : Entry) : (s.insert ax e).bank0 = s.bank0 := by cases ax <;> rfl
@[simp] theorem State.insert_bank1 (ax : Axis) (e : Entry) : (s.insert ax e).bank1 = s.bank1 := by cases ax <;> rfl
@[simp] theorem State.insert_active (ax : Axis) (e : Entry) : (s.insert ax e).active = s.active := by cases ax <;> rfl
@[simp] theorem State.insert_dets (ax : Axis) (e : Entry) : (s.insert ax e).dets = s.dets := by cases ax <;> rfl
@[simp] theorem State.insert_lines (ax : Axis) (e : Entry) : (s.insert ax e).lines = s.lines := by cases ax <;> rfl
@[simp] theorem State.insert_fb (ax : Axis) (e : Entry) : (s.insert ax e).fb = s.fb := by cases ax <;> rfl
@[simp] theorem State.insert_queue (ax : Axis) (e : Entry) : (s.insert ax e).queue = s.queue := by cases ax <;> rfl
@[simp] theorem State.insert_irq (ax : Axis) (e : Entry) : (s.insert ax e).irq = s.irq := by cases ax <;> rfl
@[simp] theorem State.insert_ring (ax : Axis) (e : Entry) : (s.insert ax e).ring = s.ring := by cases ax <;> rfl
@[simp] theorem State.insert_parser (ax : Axis) (e : Entry) : (s.insert ax e).parser = s.parser := by cases ax <;> rfl
@[simp] theorem State.insert_engine (ax : Axis) (e : Entry) : (s.insert ax e).engine = s.engine := by cases ax <;> rfl
@[simp] theorem State.insert_bus (ax : Axis) (e : Entry) : (s.insert ax e).bus = s.bus := by cases ax <;> rfl
@[simp] theorem State.insert_pending (ax : Axis) (e : Entry) : (s.insert ax e).pending = s.pending :=
  by cases ax <;> rfl

/-! ### The changed field -/

@[simp] theorem State.setSlot_slots (i : Fin 64) (x : Slot) : (s.setSlot i x).slots = s.slots.set i x := rfl
@[simp] theorem State.setItem_slots (i : Fin 64) (x : Option Item) :
    (s.setItem i x).slots = s.slots.set i { s.slot i with item := x } := rfl
@[simp] theorem State.setDet_dets (n : Fin 8) (d : Detector) : (s.setDet n d).dets = s.dets.set n d := rfl
@[simp] theorem State.setLine_lines (n : Fin 16) (l : Line) : (s.setLine n l).lines = s.lines.set n l := rfl
@[simp] theorem State.offer_queue (r : Report) : (s.offer r).queue = s.queue.offer r := rfl
@[simp] theorem State.setParser_parser (st : ParserState) :
    (s.setParser st).parser = { s.parser with state := st } := rfl
@[simp] theorem State.advanceRead_ring (n : Nat) :
    (s.advanceRead n).ring = { s.ring with read := s.ring.read + BitVec.ofNat 10 n } := rfl
@[simp] theorem State.passPacket_ring (n : Nat) :
    (s.passPacket n).ring = { s.ring with read := s.ring.read + BitVec.ofNat 10 (1 + n) } := rfl
@[simp] theorem State.passPacket_parser (n : Nat) :
    (s.passPacket n).parser = { s.parser with state := .running none } := rfl
@[simp] theorem State.freeNumber_free (n : Nat) : (s.freeNumber n).free = insertFree n s.free := rfl

/-! ### Reads of a block after a write -/

@[simp] theorem State.encAxis_setEncAxis (enc : Enc) (a : EncAxis) : (s.setEncAxis enc a).encAxis enc = a := by
  cases enc <;> rfl

theorem State.encAxis_setEncAxis_of_ne {enc other : Enc} (h : other ≠ enc) (a : EncAxis) :
    (s.setEncAxis enc a).encAxis other = s.encAxis other := by
  cases enc <;> cases other <;> first | rfl | exact absurd rfl h

@[simp] theorem State.list_setList (ax : Axis) (l : List Entry) : (s.setList ax l).list ax = l := by
  cases ax <;> rfl

theorem State.list_setList_of_ne {ax other : Axis} (h : other ≠ ax) (l : List Entry) :
    (s.setList ax l).list other = s.list other := by
  cases ax <;> cases other <;> first | rfl | exact absurd rfl h

@[simp] theorem State.setList_setList (ax : Axis) (l m : List Entry) :
    (s.setList ax l).setList ax m = s.setList ax m := by
  cases ax <;> rfl

@[simp] theorem State.setList_list (ax : Axis) : s.setList ax (s.list ax) = s := by cases ax <;> rfl

@[simp] theorem State.bank_setBank (b : BankId) (x : Bank) : (s.setBank b x).bank b = x := by
  cases b <;> rfl

@[simp] theorem State.bank_setBank_other (b : BankId) (x : Bank) :
    (s.setBank b.other x).bank b = s.bank b := by
  cases b <;> rfl

@[simp] theorem State.slot_setSlot (i j : Fin 64) (x : Slot) :
    (s.setSlot i x).slot j = if i = j then x else s.slot j := by
  simp [State.slot, State.setSlot, Vector.getElem_set, Fin.ext_iff]

@[simp] theorem State.slot_setItem (i j : Fin 64) (x : Option Item) :
    (s.setItem i x).slot j = if i = j then { s.slot j with item := x } else s.slot j := by
  unfold State.setItem
  rw [State.slot_setSlot]
  split
  · subst_vars; rfl
  · rfl

@[simp] theorem State.det_setDet (n m : Fin 8) (d : Detector) :
    (s.setDet n d).det m = if n = m then d else s.det m := by
  simp [State.det, State.setDet, Vector.getElem_set, Fin.ext_iff]

@[simp] theorem State.line_setLine (n m : Fin 16) (l : Line) :
    (s.setLine n l).line m = if n = m then l else s.line m := by
  simp [State.line, State.setLine, Vector.getElem_set, Fin.ext_iff]

@[simp] theorem State.det_mapDets (f : Detector → Detector) (n : Fin 8) :
    (s.mapDets f).det n = f (s.det n) := by
  simp [State.det, State.mapDets]

@[simp] theorem State.line_mapLines (f : Line → Line) (n : Fin 16) :
    (s.mapLines f).line n = f (s.line n) := by
  simp [State.line, State.mapLines]

@[simp] theorem State.slot_mapSlots (f : Slot → Slot) (i : Fin 64) :
    (s.mapSlots f).slot i = f (s.slot i) := by
  simp [State.slot, State.mapSlots]

/-- What a block shows depends on its own field alone. -/
theorem State.line_congr {s t : State} (h : t.lines = s.lines) (n : Fin 16) : t.line n = s.line n := by
  simp [State.line, h]

theorem State.det_congr {s t : State} (h : t.dets = s.dets) (n : Fin 8) : t.det n = s.det n := by
  simp [State.det, h]

theorem State.slot_congr {s t : State} (h : t.slots = s.slots) (i : Fin 64) : t.slot i = s.slot i := by
  simp [State.slot, h]

theorem State.pos_congr {s t : State} (h0 : t.t = s.t) (h1 : t.enc1 = s.enc1) (h2 : t.enc2 = s.enc2)
    (ax : Axis) : t.pos ax = s.pos ax := by
  cases ax <;> simp [State.pos, h0, h1, h2]

theorem State.list_congr {s t : State} (h0 : t.tList = s.tList) (h1 : t.e1List = s.e1List)
    (h2 : t.e2List = s.e2List) (ax : Axis) : t.list ax = s.list ax := by
  cases ax <;> simp [State.list, h0, h1, h2]

/-! ### Reads of a block after a write elsewhere -/

@[simp] theorem State.setList_pos (ax : Axis) (l : List Entry) (k : Axis) : (s.setList ax l).pos k = s.pos k :=
  by cases ax <;> cases k <;> rfl
@[simp] theorem State.setSlot_pos (i : Fin 64) (x : Slot) (k : Axis) : (s.setSlot i x).pos k = s.pos k :=
  by cases k <;> rfl
@[simp] theorem State.setItem_pos (i : Fin 64) (x : Option Item) (k : Axis) : (s.setItem i x).pos k = s.pos k :=
  by cases k <;> rfl
@[simp] theorem State.setBank_pos (b : BankId) (x : Bank) (k : Axis) : (s.setBank b x).pos k = s.pos k :=
  by cases b <;> cases k <;> rfl
@[simp] theorem State.setDet_pos (n : Fin 8) (d : Detector) (k : Axis) : (s.setDet n d).pos k = s.pos k :=
  by cases k <;> rfl
@[simp] theorem State.setLine_pos (n : Fin 16) (l : Line) (k : Axis) : (s.setLine n l).pos k = s.pos k :=
  by cases k <;> rfl
@[simp] theorem State.mapDets_pos (f : Detector → Detector) (k : Axis) : (s.mapDets f).pos k = s.pos k :=
  by cases k <;> rfl
@[simp] theorem State.mapLines_pos (f : Line → Line) (k : Axis) : (s.mapLines f).pos k = s.pos k := by cases k <;> rfl
@[simp] theorem State.mapSlots_pos (f : Slot → Slot) (k : Axis) : (s.mapSlots f).pos k = s.pos k := by cases k <;> rfl
@[simp] theorem State.offer_pos (r : Report) (k : Axis) : (s.offer r).pos k = s.pos k := by cases k <;> rfl
@[simp] theorem State.setParser_pos (st : ParserState) (k : Axis) : (s.setParser st).pos k = s.pos k :=
  by cases k <;> rfl
@[simp] theorem State.advanceRead_pos (n : Nat) (k : Axis) : (s.advanceRead n).pos k = s.pos k := by cases k <;> rfl
@[simp] theorem State.passPacket_pos (n : Nat) (k : Axis) : (s.passPacket n).pos k = s.pos k := by cases k <;> rfl
@[simp] theorem State.freeNumber_pos (n : Nat) (k : Axis) : (s.freeNumber n).pos k = s.pos k := by cases k <;> rfl
@[simp] theorem State.insert_pos (ax : Axis) (e : Entry) (k : Axis) : (s.insert ax e).pos k = s.pos k :=
  by cases ax <;> cases k <;> rfl
@[simp] theorem State.setEncAxis_list (enc : Enc) (a : EncAxis) (k : Axis) : (s.setEncAxis enc a).list k = s.list k :=
  by cases enc <;> cases k <;> rfl
@[simp] theorem State.setSlot_list (i : Fin 64) (x : Slot) (k : Axis) : (s.setSlot i x).list k = s.list k :=
  by cases k <;> rfl
@[simp] theorem State.setItem_list (i : Fin 64) (x : Option Item) (k : Axis) : (s.setItem i x).list k = s.list k :=
  by cases k <;> rfl
@[simp] theorem State.setBank_list (b : BankId) (x : Bank) (k : Axis) : (s.setBank b x).list k = s.list k :=
  by cases b <;> cases k <;> rfl
@[simp] theorem State.setDet_list (n : Fin 8) (d : Detector) (k : Axis) : (s.setDet n d).list k = s.list k :=
  by cases k <;> rfl
@[simp] theorem State.setLine_list (n : Fin 16) (l : Line) (k : Axis) : (s.setLine n l).list k = s.list k :=
  by cases k <;> rfl
@[simp] theorem State.mapDets_list (f : Detector → Detector) (k : Axis) : (s.mapDets f).list k = s.list k :=
  by cases k <;> rfl
@[simp] theorem State.mapLines_list (f : Line → Line) (k : Axis) : (s.mapLines f).list k = s.list k :=
  by cases k <;> rfl
@[simp] theorem State.mapSlots_list (f : Slot → Slot) (k : Axis) : (s.mapSlots f).list k = s.list k :=
  by cases k <;> rfl
@[simp] theorem State.offer_list (r : Report) (k : Axis) : (s.offer r).list k = s.list k := by cases k <;> rfl
@[simp] theorem State.setParser_list (st : ParserState) (k : Axis) : (s.setParser st).list k = s.list k :=
  by cases k <;> rfl
@[simp] theorem State.advanceRead_list (n : Nat) (k : Axis) : (s.advanceRead n).list k = s.list k :=
  by cases k <;> rfl
@[simp] theorem State.passPacket_list (n : Nat) (k : Axis) : (s.passPacket n).list k = s.list k := by cases k <;> rfl
@[simp] theorem State.freeNumber_list (n : Nat) (k : Axis) : (s.freeNumber n).list k = s.list k := by cases k <;> rfl
@[simp] theorem State.setEncAxis_line (enc : Enc) (a : EncAxis) (k : Fin 16) : (s.setEncAxis enc a).line k = s.line k :=
  by cases enc <;> rfl
@[simp] theorem State.setList_line (ax : Axis) (l : List Entry) (k : Fin 16) : (s.setList ax l).line k = s.line k :=
  by cases ax <;> rfl
@[simp] theorem State.setSlot_line (i : Fin 64) (x : Slot) (k : Fin 16) : (s.setSlot i x).line k = s.line k := rfl
@[simp] theorem State.setItem_line (i : Fin 64) (x : Option Item) (k : Fin 16) : (s.setItem i x).line k = s.line k :=
  rfl
@[simp] theorem State.setBank_line (b : BankId) (x : Bank) (k : Fin 16) : (s.setBank b x).line k = s.line k :=
  by cases b <;> rfl
@[simp] theorem State.setDet_line (n : Fin 8) (d : Detector) (k : Fin 16) : (s.setDet n d).line k = s.line k := rfl
@[simp] theorem State.mapDets_line (f : Detector → Detector) (k : Fin 16) : (s.mapDets f).line k = s.line k := rfl
@[simp] theorem State.mapSlots_line (f : Slot → Slot) (k : Fin 16) : (s.mapSlots f).line k = s.line k := rfl
@[simp] theorem State.offer_line (r : Report) (k : Fin 16) : (s.offer r).line k = s.line k := rfl
@[simp] theorem State.setParser_line (st : ParserState) (k : Fin 16) : (s.setParser st).line k = s.line k := rfl
@[simp] theorem State.advanceRead_line (n : Nat) (k : Fin 16) : (s.advanceRead n).line k = s.line k := rfl
@[simp] theorem State.passPacket_line (n : Nat) (k : Fin 16) : (s.passPacket n).line k = s.line k := rfl
@[simp] theorem State.freeNumber_line (n : Nat) (k : Fin 16) : (s.freeNumber n).line k = s.line k := rfl
@[simp] theorem State.insert_line (ax : Axis) (e : Entry) (k : Fin 16) : (s.insert ax e).line k = s.line k :=
  by cases ax <;> rfl
@[simp] theorem State.setEncAxis_det (enc : Enc) (a : EncAxis) (k : Fin 8) : (s.setEncAxis enc a).det k = s.det k :=
  by cases enc <;> rfl
@[simp] theorem State.setList_det (ax : Axis) (l : List Entry) (k : Fin 8) : (s.setList ax l).det k = s.det k :=
  by cases ax <;> rfl
@[simp] theorem State.setSlot_det (i : Fin 64) (x : Slot) (k : Fin 8) : (s.setSlot i x).det k = s.det k := rfl
@[simp] theorem State.setItem_det (i : Fin 64) (x : Option Item) (k : Fin 8) : (s.setItem i x).det k = s.det k := rfl
@[simp] theorem State.setBank_det (b : BankId) (x : Bank) (k : Fin 8) : (s.setBank b x).det k = s.det k :=
  by cases b <;> rfl
@[simp] theorem State.setLine_det (n : Fin 16) (l : Line) (k : Fin 8) : (s.setLine n l).det k = s.det k := rfl
@[simp] theorem State.mapLines_det (f : Line → Line) (k : Fin 8) : (s.mapLines f).det k = s.det k := rfl
@[simp] theorem State.mapSlots_det (f : Slot → Slot) (k : Fin 8) : (s.mapSlots f).det k = s.det k := rfl
@[simp] theorem State.offer_det (r : Report) (k : Fin 8) : (s.offer r).det k = s.det k := rfl
@[simp] theorem State.setParser_det (st : ParserState) (k : Fin 8) : (s.setParser st).det k = s.det k := rfl
@[simp] theorem State.advanceRead_det (n : Nat) (k : Fin 8) : (s.advanceRead n).det k = s.det k := rfl
@[simp] theorem State.passPacket_det (n : Nat) (k : Fin 8) : (s.passPacket n).det k = s.det k := rfl
@[simp] theorem State.freeNumber_det (n : Nat) (k : Fin 8) : (s.freeNumber n).det k = s.det k := rfl
@[simp] theorem State.insert_det (ax : Axis) (e : Entry) (k : Fin 8) : (s.insert ax e).det k = s.det k :=
  by cases ax <;> rfl
@[simp] theorem State.setEncAxis_slot (enc : Enc) (a : EncAxis) (k : Fin 64) : (s.setEncAxis enc a).slot k = s.slot k :=
  by cases enc <;> rfl
@[simp] theorem State.setList_slot (ax : Axis) (l : List Entry) (k : Fin 64) : (s.setList ax l).slot k = s.slot k :=
  by cases ax <;> rfl
@[simp] theorem State.setBank_slot (b : BankId) (x : Bank) (k : Fin 64) : (s.setBank b x).slot k = s.slot k :=
  by cases b <;> rfl
@[simp] theorem State.setDet_slot (n : Fin 8) (d : Detector) (k : Fin 64) : (s.setDet n d).slot k = s.slot k := rfl
@[simp] theorem State.setLine_slot (n : Fin 16) (l : Line) (k : Fin 64) : (s.setLine n l).slot k = s.slot k := rfl
@[simp] theorem State.mapDets_slot (f : Detector → Detector) (k : Fin 64) : (s.mapDets f).slot k = s.slot k := rfl
@[simp] theorem State.mapLines_slot (f : Line → Line) (k : Fin 64) : (s.mapLines f).slot k = s.slot k := rfl
@[simp] theorem State.offer_slot (r : Report) (k : Fin 64) : (s.offer r).slot k = s.slot k := rfl
@[simp] theorem State.setParser_slot (st : ParserState) (k : Fin 64) : (s.setParser st).slot k = s.slot k := rfl
@[simp] theorem State.advanceRead_slot (n : Nat) (k : Fin 64) : (s.advanceRead n).slot k = s.slot k := rfl
@[simp] theorem State.passPacket_slot (n : Nat) (k : Fin 64) : (s.passPacket n).slot k = s.slot k := rfl
@[simp] theorem State.freeNumber_slot (n : Nat) (k : Fin 64) : (s.freeNumber n).slot k = s.slot k := rfl
@[simp] theorem State.insert_slot (ax : Axis) (e : Entry) (k : Fin 64) : (s.insert ax e).slot k = s.slot k :=
  by cases ax <;> rfl
@[simp] theorem State.setList_encAxis (ax : Axis) (l : List Entry) (k : Enc) : (s.setList ax l).encAxis k = s.encAxis k :=
  by cases ax <;> cases k <;> rfl
@[simp] theorem State.setSlot_encAxis (i : Fin 64) (x : Slot) (k : Enc) : (s.setSlot i x).encAxis k = s.encAxis k :=
  by cases k <;> rfl
@[simp] theorem State.setItem_encAxis (i : Fin 64) (x : Option Item) (k : Enc) : (s.setItem i x).encAxis k = s.encAxis k :=
  by cases k <;> rfl
@[simp] theorem State.setBank_encAxis (b : BankId) (x : Bank) (k : Enc) : (s.setBank b x).encAxis k = s.encAxis k :=
  by cases b <;> cases k <;> rfl
@[simp] theorem State.setDet_encAxis (n : Fin 8) (d : Detector) (k : Enc) : (s.setDet n d).encAxis k = s.encAxis k :=
  by cases k <;> rfl
@[simp] theorem State.setLine_encAxis (n : Fin 16) (l : Line) (k : Enc) : (s.setLine n l).encAxis k = s.encAxis k :=
  by cases k <;> rfl
@[simp] theorem State.mapDets_encAxis (f : Detector → Detector) (k : Enc) : (s.mapDets f).encAxis k = s.encAxis k :=
  by cases k <;> rfl
@[simp] theorem State.mapLines_encAxis (f : Line → Line) (k : Enc) : (s.mapLines f).encAxis k = s.encAxis k :=
  by cases k <;> rfl
@[simp] theorem State.mapSlots_encAxis (f : Slot → Slot) (k : Enc) : (s.mapSlots f).encAxis k = s.encAxis k :=
  by cases k <;> rfl
@[simp] theorem State.offer_encAxis (r : Report) (k : Enc) : (s.offer r).encAxis k = s.encAxis k := by cases k <;> rfl
@[simp] theorem State.setParser_encAxis (st : ParserState) (k : Enc) : (s.setParser st).encAxis k = s.encAxis k :=
  by cases k <;> rfl
@[simp] theorem State.advanceRead_encAxis (n : Nat) (k : Enc) : (s.advanceRead n).encAxis k = s.encAxis k :=
  by cases k <;> rfl
@[simp] theorem State.passPacket_encAxis (n : Nat) (k : Enc) : (s.passPacket n).encAxis k = s.encAxis k :=
  by cases k <;> rfl
@[simp] theorem State.freeNumber_encAxis (n : Nat) (k : Enc) : (s.freeNumber n).encAxis k = s.encAxis k :=
  by cases k <;> rfl
@[simp] theorem State.insert_encAxis (ax : Axis) (e : Entry) (k : Enc) : (s.insert ax e).encAxis k = s.encAxis k :=
  by cases ax <;> cases k <;> rfl

end Sys2Proof.Machine
end

