-- ==== Sys2Proof/Laws/Ops.lean ====
section
/-!
SUPPORT. The shared operations of Machine/Ops.lean: reach and lead (R1, R21), and the offer of a record
(R148, R149).
-/
namespace Sys2Proof.Machine

/-! ### Reach and lead -/

theorem reached_iff (p q : Pos) : reached p q = true ↔ (p - q).toNat < 2147483648 := by
  rw [reached, decide_eq_true_iff, Config.halfCircle]

theorem not_reached_iff (p q : Pos) : reached p q = false ↔ 2147483648 ≤ (p - q).toNat := by
  rw [reached, decide_eq_false_iff_not, Config.halfCircle, Nat.not_lt]

/-- A position is reached on the axis that stands at it. -/
@[simp] theorem reached_self (p : Pos) : reached p p = true := by simp [reached_iff]

/-- A lead is the signed distance to the due position, above -2^31 and at most 2^31 (R1, R21). -/
theorem lead_bounds (p due : Pos) : -2147483648 < lead p due ∧ lead p due ≤ 2147483648 := by
  unfold lead forwardDistance distanceBehind
  split
  · rename_i h; rw [reached_iff] at h; omega
  · rename_i h
    have h : reached p due = false := by simpa using h
    rw [not_reached_iff] at h
    constructor
    · omega
    · have : (due - p).toNat ≤ 2147483648 := by bv_omega
      omega

/-- A due position is reached exactly when its lead is 0 or less. -/
theorem lead_nonpos_iff (p due : Pos) : lead p due ≤ 0 ↔ reached p due = true := by
  unfold lead forwardDistance distanceBehind
  split
  · rename_i h; simp only [h, iff_true]; omega
  · rename_i h
    have h1 : reached p due = false := by simpa using h
    have h2 := (not_reached_iff p due).1 h1
    have : 0 < (due - p).toNat := by bv_omega
    simp only [h1, Bool.false_eq_true, iff_false, Int.not_le]
    omega

theorem lead_pos_iff (p due : Pos) : 0 < lead p due ↔ reached p due = false := by
  have := lead_nonpos_iff p due
  cases h : reached p due <;> simp [h] at this ⊢ <;> omega

@[simp] theorem lead_self (p : Pos) : lead p p = 0 := by simp [lead, distanceBehind]

/-- Due positions of equal lead are equal. -/
theorem lead_inj {p a b : Pos} (h : lead p a = lead p b) : a = b := by
  unfold lead forwardDistance distanceBehind at h
  have ha := (p - a).isLt
  split at h <;> split at h <;> rename_i h1 h2 <;> simp only [reached_iff] at h1 h2 <;> bv_omega

/-- An advance by one lowers every lead by one, but for one that stands at its lower end (R21). -/
theorem lead_advance (p due : Pos) (h : lead p due ≠ -2147483647) :
    lead (p + 1) due = lead p due - 1 := by
  unfold lead forwardDistance distanceBehind at h ⊢
  simp only [reached_iff] at h ⊢
  split at h <;> split <;> rename_i h1 h2 <;> bv_omega

/-- A backward change by one raises every lead by one, but for one that stands at half the circle, which expires
(R21, R23). -/
theorem lead_backward (p due : Pos) (h : lead p due ≠ 2147483648) :
    lead (p - 1) due = lead p due + 1 := by
  unfold lead forwardDistance distanceBehind at h ⊢
  simp only [reached_iff] at h ⊢
  split at h <;> split <;> rename_i h1 h2 <;> bv_omega

/-! ### Offers -/

/-- An offered record is admitted behind the tail, or counted on it (R148, R149). -/
theorem ReportQueue.offer_cases (q : ReportQueue) (r : Report) :
    (q.records.length < r.kind.cls.limit ∧
      q.offer r = { records := q.records ++ [{ report := r, seq := q.seq, lost := 0 }], seq := q.seq + 1 }) ∨
    (r.kind.cls.limit ≤ q.records.length ∧
      q.offer r = { q with records := countLossOnTail q.records }) := by
  unfold ReportQueue.offer
  split
  · exact .inl ⟨‹_›, rfl⟩
  · exact .inr ⟨by omega, rfl⟩

@[simp] theorem countLossOnTail_length (l : List Record) : (countLossOnTail l).length = l.length := by
  induction l using countLossOnTail.induct <;> simp_all [countLossOnTail]

/-- A loss is counted on the last record and on no other. -/
theorem countLossOnTail_append (l : List Record) (r : Record) :
    countLossOnTail (l ++ [r]) = l ++ [r.countLoss] := by
  induction l using countLossOnTail.induct <;> simp_all [countLossOnTail]

/-- Counting a loss keeps every report and every sequence. -/
theorem countLossOnTail_map_report (l : List Record) :
    (countLossOnTail l).map (fun r => (r.report, r.seq)) = l.map fun r => (r.report, r.seq) := by
  induction l using countLossOnTail.induct <;> simp_all [countLossOnTail, Record.countLoss]

@[simp] theorem offers_nil (q : ReportQueue) : Claims.offers q [] = q := rfl

@[simp] theorem offers_cons (q : ReportQueue) (r : Report) (rs : List Report) :
    Claims.offers q (r :: rs) = Claims.offers (q.offer r) rs := rfl

theorem offers_append (q : ReportQueue) (a b : List Report) :
    Claims.offers q (a ++ b) = Claims.offers (Claims.offers q a) b := by
  simp [Claims.offers, List.foldl_append]

/-- After any offers the records held before stand in front, with their reports and sequences (R147). -/
theorem offers_isPrefix (q : ReportQueue) (rs : List Report) :
    (q.records.map fun r => (r.report, r.seq)) <+:
      ((Claims.offers q rs).records.map fun r => (r.report, r.seq)) := by
  induction rs generalizing q with
  | nil => exact List.prefix_refl _
  | cons r rs ih =>
    rw [offers_cons]
    refine List.IsPrefix.trans ?_ (ih _)
    rcases q.offer_cases r with ⟨_, h⟩ | ⟨_, h⟩
    · rw [h]; simp
    · rw [h, countLossOnTail_map_report]

/-! ### Codes as the bits of a field (11.2, 11.4.2) -/

/-- Fields side by side: the upper one is shifted by the width of the lower. -/
theorem append_toNat {n m : Nat} (x : BitVec n) (y : BitVec m) : (x ++ y).toNat = x.toNat * 2 ^ m + y.toNat := by
  rw [BitVec.toNat_append, Nat.shiftLeft_eq, Nat.mul_comm, ← Nat.two_pow_add_eq_or_of_lt y.isLt]

theorem FaultKind.code_eq (k : FaultKind) : k.code = (Claims.faultBits k).toNat := by cases k <;> rfl
theorem LineState.code_eq (st : LineState) : st.code = (Claims.lineBits st).toNat := by cases st <;> rfl
theorem EngineState.code_eq (e : EngineState) : e.code = (Claims.engineBits e).toNat := by cases e <;> rfl
theorem ParserState.code_eq (p : ParserState) : p.code = (Claims.parserBits p).toNat := by cases p <;> rfl
theorem DetectorState.code_eq (d : DetectorState) : d.code = (Claims.detectorBits d).toNat := by cases d <;> rfl
theorem BankId.code_eq (b : BankId) : b.code = (Claims.bankBit b).toNat := by cases b <;> rfl
theorem ReportKind.code_eq (k : ReportKind) : k.code = (Claims.kindBits k).toNat := by cases k <;> rfl
theorem Reason.code_eq (r : Reason) : r.code = (Claims.reasonBits r).toNat := by cases r <;> rfl
theorem EndReason.code_eq (r : EndReason) : r.code = (Claims.endReasonBits r).toNat := by cases r <;> rfl
theorem DropReason.code_eq (r : DropReason) : r.code = (Claims.dropReasonBits r).toNat := by cases r <;> rfl
theorem Origin.kindCode_eq (o : Origin) : o.kindCode = (Claims.originKindBits (some o)).toNat := by
  cases o <;> rfl
theorem ItemOrigin.code_eq (o : ItemOrigin) : o.code = (Claims.itemOriginBits o).toNat := by
  rcases o with n | _
  · revert n; decide
  · rfl
theorem flagCode_eq (b : Bool) : flagCode b = (BitVec.ofBool b).toNat := by cases b <;> rfl
theorem Item.verdictCode_eq (x : Item) :
    x.verdictCode = (Claims.verdictBits (x.decision.map Prod.fst)).toNat := by
  unfold Item.verdictCode; rcases x.decision with _ | ⟨_ | _, _ | _⟩ <;> rfl
theorem Item.sourceCode_eq (x : Item) :
    x.sourceCode = (Claims.sourceBit (x.decision.map Prod.snd)).toNat := by
  unfold Item.sourceCode; rcases x.decision with _ | ⟨_ | _, _ | _⟩ <;> rfl

end Sys2Proof.Machine
end

