-- ==== Sys2Proof/Laws/Lines.lean ====
section
/-!
SUPPORT. The shared operations of the lines: what a request, a pulse end and the small changes of a line can do.
-/
namespace Sys2Proof.Machine

/-! ### Sampling and drive -/

/-- The events of R133 change the sample time of a watching channel and nothing else. -/
theorem Line.scheduleSample_eq (l : Line) (t : Pos) :
    l.scheduleSample t =
      { l with sampleTime :=
          if l.watching then some (t + l.mon.settle.setWidth 32 + 1) else l.sampleTime } := by
  unfold Line.scheduleSample; split <;> rfl

/-- Entering a state other than DISABLED by an event of R133. -/
theorem Line.enterSampled_eq (l : Line) (st : LineState) (t : Pos) (h : st ≠ .disabled) :
    l.enterSampled st t = { l with state := st, sampleTime := Claims.sampleAfter l t } := by
  unfold Line.enterSampled Line.scheduleSample Line.watching Claims.sampleAfter
  simp only [h, ne_eq, not_false_eq_true, decide_true, Bool.and_true]
  split <;> rfl

@[simp] theorem Line.enterSampled_state (l : Line) (st : LineState) (t : Pos) :
    (l.enterSampled st t).state = st := by
  unfold Line.enterSampled Line.scheduleSample; split <;> rfl

@[simp] theorem Line.enterSampled_cfg (l : Line) (st : LineState) (t : Pos) :
    (l.enterSampled st t).cfg = l.cfg := by
  unfold Line.enterSampled Line.scheduleSample; split <;> rfl

@[simp] theorem Line.enterSampled_mon (l : Line) (st : LineState) (t : Pos) :
    (l.enterSampled st t).mon = l.mon := by
  unfold Line.enterSampled Line.scheduleSample; split <;> rfl

@[simp] theorem Line.enterSampled_slot (l : Line) (st : LineState) (t : Pos) :
    (l.enterSampled st t).slot = l.slot := by
  unfold Line.enterSampled Line.scheduleSample; split <;> rfl

@[simp] theorem Line.enterSampled_mismatch (l : Line) (st : LineState) (t : Pos) :
    (l.enterSampled st t).mismatch = l.mismatch := by
  unfold Line.enterSampled Line.scheduleSample; split <;> rfl

/-! ### Requests (R113) -/

/-- A dropped request leaves the line as it is. -/
theorem State.answer_dropped {s : State} {n : Fin 16} {q : FiringRequest} {r : DropReason}
    (h : (s.answer n q).2 = .dropped r) : (s.answer n q).1 = s.line n := by
  unfold State.answer at h ⊢
  cases hst : (s.line n).state <;> simp only [hst] at h ⊢ <;> try rfl
  case idle => cases h
  case active u =>
    cases hp : (s.line n).cfg.policy <;> simp only [hp] at h ⊢ <;> try rfl
    · split at h
      · cases h
      · rename_i hm; rw [if_neg hm]
    · cases hs : (s.line n).slot <;> simp only [hs] at h ⊢
      cases h
  case recovery e =>
    cases hp : (s.line n).cfg.policy <;> simp only [hp] at h ⊢
    cases hs : (s.line n).slot <;> simp only [hs] at h ⊢
    cases h

/-- An answer never changes a line's configuration. -/
theorem State.answer_cfg (s : State) (n : Fin 16) (q : FiringRequest) :
    (s.answer n q).1.cfg = (s.line n).cfg := by
  unfold State.answer
  extract_lets l deferred
  split
  · rfl
  · rfl
  · exact Line.enterSampled_cfg _ _ _
  · split
    · split <;> rfl
    · rfl
    · unfold deferred; split <;> rfl
  · split
    · rfl
    · rfl
    · unfold deferred; split <;> rfl

/-- An answer never changes a line's monitor fields. -/
theorem State.answer_mon (s : State) (n : Fin 16) (q : FiringRequest) :
    (s.answer n q).1.mon = (s.line n).mon := by
  unfold State.answer
  extract_lets l deferred
  split
  · rfl
  · rfl
  · exact Line.enterSampled_mon _ _ _
  · split
    · split <;> rfl
    · rfl
    · unfold deferred; split <;> rfl
  · split
    · rfl
    · rfl
    · unfold deferred; split <;> rfl

theorem State.request_answer (s : State) (n : Fin 16) (q : FiringRequest) :
    (s.request n q).2 = (s.answer n q).2 := by
  unfold State.request
  rcases h : s.answer n q with ⟨l, _ | r⟩ <;> rfl

/-- All that a request does: its line after the answer, and FIRE_DROPPED at a drop (R113, R127). -/
theorem State.request_eq (s : State) (n : Fin 16) (q : FiringRequest) :
    (s.request n q).1 =
      { s with
        lines := s.lines.set n (s.answer n q).1
        queue := Claims.offers s.queue (Claims.dropRecords n q (s.answer n q).2) } := by
  unfold State.request
  rcases h : s.answer n q with ⟨l, _ | r⟩
  · rfl
  · have hl : l = s.line n := by
      have := State.answer_dropped (s := s) (n := n) (q := q) (r := r) (by rw [h])
      rwa [h] at this
    subst hl
    have : s.lines.set n (s.line n) = s.lines := by simp [State.line]
    simp only [this]
    rfl

/-! ### Records of a pulse end (R126, R127) -/

theorem State.offerFireDone_eq (s : State) (n : Fin 16) (u : Pulse) (r : EndReason) :
    s.offerFireDone n u r =
      { s with queue := Claims.offers s.queue (Claims.fireDone s n (s.line n) u r) } := by
  unfold State.offerFireDone Claims.fireDone; split <;> rfl

theorem State.offerSlotDrop_eq (s : State) (n : Fin 16) (r : DropReason) :
    s.offerSlotDrop n r =
      { s with queue := Claims.offers s.queue (Claims.slotDropped n (s.line n) r) } := by
  unfold State.offerSlotDrop Claims.slotDropped
  cases (s.line n).slot <;> rfl

theorem State.afterPulse_eq (s : State) (l : Line) : s.afterPulse l = Claims.lineAfterEnd s l := by
  unfold State.afterPulse Claims.lineAfterEnd
  by_cases h : l.cfg.minOff = 0
  · have h0 : ¬ 1 ≤ l.cfg.minOff.toNat := by simp [h]
    simp only [h, if_true]
    cases hs : l.slot <;> simp [Line.enterSampled_eq, State.startPending, hs]
  · have h0 : 1 ≤ l.cfg.minOff.toNat := by bv_omega
    simp only [h, h0, if_true, if_false]
    exact Line.enterSampled_eq _ _ _ (by simp)

/-- All that the end of a pulse does: FIRE_DONE when reports are on, and the line's passage (R121, R126). -/
theorem State.endPulse_eq (s : State) (n : Fin 16) (u : Pulse) (r : EndReason) :
    s.endPulse n u r =
      { s with queue := Claims.offers s.queue (Claims.fireDone s n (s.line n) u r) }.setLine n
        (Claims.lineAfterEnd s (s.line n)) := by
  unfold State.endPulse
  simp only [State.offerFireDone_eq, State.afterPulse_eq]
  rfl

/-- What a pulse end's passage keeps of the line. -/
theorem Claims.lineAfterEnd_cfg (s : State) (l : Line) :
    (Claims.lineAfterEnd s l).cfg = l.cfg ∧ (Claims.lineAfterEnd s l).mon = l.mon := by
  unfold Claims.lineAfterEnd
  split
  · exact ⟨rfl, rfl⟩
  · split <;> exact ⟨rfl, rfl⟩

end Sys2Proof.Machine
end

