-- ==== Sys2Proof/Laws/Schedule.lean ====
section
/-!
SUPPORT. The shared operations of the Schedule and of the Item Table: insertion, the free list, handles, and the
release pass as an induction.
-/
namespace Sys2Proof.Machine

/-! ### Insertion and the free list (R18, R22) -/

/-- Insertion adds the entry and loses none. -/
theorem insertByLead_perm (p : Pos) (e : Entry) (l : List Entry) : (insertByLead p e l).Perm (e :: l) := by
  induction l with
  | nil => exact .refl _
  | cons x xs ih =>
    unfold insertByLead
    split
    · exact (ih.cons x).trans (.swap e x xs)
    · exact .refl _

@[simp] theorem mem_insertByLead {p : Pos} {e x : Entry} {l : List Entry} :
    x ∈ insertByLead p e l ↔ x = e ∨ x ∈ l := by
  rw [(insertByLead_perm p e l).mem_iff, List.mem_cons]

/-- Insertion keeps a list ordered by lead (R21, R22). -/
theorem insertByLead_pairwise {p : Pos} {e : Entry} {l : List Entry}
    (h : l.Pairwise fun a b => lead p a.due ≤ lead p b.due) :
    (insertByLead p e l).Pairwise fun a b => lead p a.due ≤ lead p b.due := by
  induction l with
  | nil => simp [insertByLead]
  | cons x xs ih =>
    rw [List.pairwise_cons] at h
    unfold insertByLead
    split
    · rename_i hx
      refine List.pairwise_cons.2 ⟨fun y hy => ?_, ih h.2⟩
      rcases mem_insertByLead.1 hy with rfl | hy
      · exact hx
      · exact h.1 y hy
    · rename_i hx
      refine List.pairwise_cons.2 ⟨fun y hy => ?_, List.pairwise_cons.2 h⟩
      rcases List.mem_cons.1 hy with rfl | hy
      · omega
      · have := h.1 y hy; omega

/-- A freed number joins the free list and none leaves it (R18). -/
theorem insertFree_perm (n : Nat) (l : List Nat) : (insertFree n l).Perm (n :: l) := by
  induction l with
  | nil => exact .refl _
  | cons m ms ih =>
    unfold insertFree
    split
    · exact .refl _
    · exact (ih.cons m).trans (.swap n m ms)

@[simp] theorem insertFree_length (n : Nat) (l : List Nat) : (insertFree n l).length = l.length + 1 :=
  (insertFree_perm n l).length_eq

/-- The free list stays lowest number first (R18). -/
theorem insertFree_pairwise {n : Nat} {l : List Nat} (h : l.Pairwise (· < ·)) (hn : n ∉ l) :
    (insertFree n l).Pairwise (· < ·) := by
  induction l with
  | nil => simp [insertFree]
  | cons m ms ih =>
    rw [List.pairwise_cons] at h
    rw [List.mem_cons, not_or] at hn
    unfold insertFree
    split
    · refine List.pairwise_cons.2 ⟨fun y hy => ?_, List.pairwise_cons.2 h⟩
      rcases List.mem_cons.1 hy with rfl | hy
      · omega
      · have := h.1 y hy; omega
    · refine List.pairwise_cons.2 ⟨fun y hy => ?_, ih h.2 hn.2⟩
      rcases List.mem_cons.1 ((insertFree_perm n ms).mem_iff.1 hy) with rfl | hy
      · omega
      · exact h.1 y hy

@[simp] theorem State.freeCount_freeNumber (s : State) (n : Nat) :
    (s.freeNumber n).freeCount = s.freeCount + 1 := by
  simp [State.freeCount]

/-! ### Handles (R48) -/

theorem State.findItem_eq_some {s : State} {h : Handle} {x : Item} :
    s.findItem h = some x ↔ (s.slot h.slot).gen = h.gen ∧ (s.slot h.slot).item = some x := by
  unfold State.findItem
  by_cases hg : (s.slot h.slot).gen = h.gen <;> simp [hg]

/-- A handle is stale when its slot is FREE or its generation differs (R48). -/
theorem State.findItem_eq_none {s : State} {h : Handle} :
    s.findItem h = none ↔ (s.slot h.slot).item = none ∨ (s.slot h.slot).gen ≠ h.gen := by
  unfold State.findItem
  by_cases hg : (s.slot h.slot).gen = h.gen <;> simp [hg]

theorem State.findItem_congr {s t : State} (hs : t.slots = s.slots) (h : Handle) :
    t.findItem h = s.findItem h := by
  unfold State.findItem; rw [State.slot_congr hs]

/-! ### The empty part (R71, R199) -/

/-- No slot is in use exactly when each is FREE. -/
theorem State.itemsInUse_eq_zero (s : State) : s.itemsInUse = 0 ↔ ∀ i : Fin 64, (s.slot i).item = none := by
  unfold State.itemsInUse State.slot
  rw [List.countP_eq_zero]
  constructor
  · intro h i
    have := h s.slots[i] (by simp)
    simpa using this
  · intro h x hx
    obtain ⟨i, hi, rfl⟩ := List.getElem_of_mem hx
    have hi' : i < 64 := by simpa using hi
    have := h ⟨i, hi'⟩
    simp only [Fin.getElem_fin] at this
    simp [this]

theorem State.isEmpty_iff (s : State) : s.isEmpty = true ↔ Claims.PartEmpty s := by
  unfold State.isEmpty State.listsEmpty Claims.PartEmpty
  simp only [Bool.and_eq_true, decide_eq_true_eq, State.itemsInUse_eq_zero, List.isEmpty_iff, and_assoc]

/-- The lowest FREE slot (R46). -/
theorem State.lowestFreeSlot_eq_some {s : State} {i : Fin 64} (h : s.lowestFreeSlot = some i) :
    (s.slot i).item = none := by
  have := List.find?_some h
  simpa using this

theorem State.lowestFreeSlot_eq_none {s : State} :
    s.lowestFreeSlot = none ↔ ∀ i : Fin 64, (s.slot i).item.isSome = true := by
  unfold State.lowestFreeSlot allSlots
  rw [List.find?_eq_none]
  constructor
  · intro h i
    have := h i (List.mem_finRange i)
    cases hx : (s.slot i).item <;> simp_all
  · intro h i _
    have := h i
    cases hx : (s.slot i).item <;> simp_all

/-! ### Notices (R200) -/

/-- The end of an event leaves the part as it is, or takes a QUIESCING engine to QUIESCED with its record. -/
theorem State.engineNotice_cases (s before : State) :
    s.engineNotice before = s ∨
    (s.engine = .quiescing ∧ s.isEmpty = true ∧
      s.engineNotice before = { s with engine := .quiesced, queue := s.queue.offer (quiescedReport s.t) }) := by
  unfold State.engineNotice
  split
  · rename_i h; exact .inr ⟨h.1, h.2.1, rfl⟩
  · exact .inl rfl

/-! ### The release pass (R24) -/

theorem State.passLoop_zero (ax : Axis) (s : State) : State.passLoop ax 0 s = s := rfl

/-- A pass over a list whose head is not reached releases nothing. -/
theorem State.passLoop_quiet {ax : Axis} {s : State} (h : s.ListQuiet ax) (n : Nat) :
    State.passLoop ax n s = s := by
  cases n with
  | zero => rfl
  | succ n =>
    unfold State.passLoop
    unfold State.ListQuiet at h
    cases hl : s.list ax with
    | nil => rfl
    | cons e rest => simp only [hl] at h; simp [h]

/-- One release of a pass. -/
theorem State.passLoop_succ {ax : Axis} {s : State} {e : Entry} {rest : List Entry} (hl : s.list ax = e :: rest)
    (hr : reached (s.pos ax) e.due = true) (n : Nat) :
    State.passLoop ax (n + 1) s = State.passLoop ax n ((s.setList ax rest).release ax e) := by
  rw [State.passLoop]; simp [hl, hr]

/-- What every release keeps, a pass keeps: `R` holds of a state and itself, and carries over one release. -/
theorem State.passLoop_induct {ax : Axis} (R : State → State → Prop) (hrefl : ∀ s, R s s)
    (hstep : ∀ s t e rest, R s t → t.list ax = e :: rest → reached (t.pos ax) e.due = true →
      R s ((t.setList ax rest).release ax e)) (n : Nat) (s : State) :
    R s (State.passLoop ax n s) := by
  suffices h : ∀ n t, R s t → R s (State.passLoop ax n t) from h n s (hrefl s)
  intro n
  induction n with
  | zero => exact fun t h => h
  | succ n ih =>
    intro t h
    unfold State.passLoop
    split
    · exact h
    · split
      · exact ih _ (hstep _ _ _ _ h ‹_› ‹_›)
      · exact h

/-! ### What a release leaves in the lists (R32, R34, R35) -/

theorem State.request_list (s : State) (n : Fin 16) (q : FiringRequest) (k : Axis) :
    (s.request n q).1.list k = s.list k := by
  rw [State.request_eq]; cases k <;> rfl

theorem State.applyDefault_list (s : State) (h : Handle) (i : Fin 128) (ax : Axis) (p : Pos) (k : Axis) :
    (s.applyDefault h i ax p).list k = s.list k := by
  unfold State.applyDefault; repeat' split
  all_goals simp

theorem State.tally_list (s : State) (h : Handle) (a : Answer) (k : Axis) : (s.tally h a).list k = s.list k := by
  unfold State.tally; split <;> simp

theorem State.lowerPending_list (s : State) (h : Handle) (k : Axis) : (s.lowerPending h).list k = s.list k := by
  unfold State.lowerPending; dsimp only; repeat' split
  all_goals simp

/-- The action of a release changes no list. -/
theorem State.actOn_list (s : State) (ax : Axis) (e : Entry) (k : Axis) : (s.actOn ax e).list k = s.list k := by
  unfold State.actOn; dsimp only; repeat' split
  all_goals simp only [State.tally_list, State.request_list, State.applyDefault_list]

theorem State.tellLate_list (s : State) (ax : Axis) (e : Entry) (k : Axis) :
    (s.tellLate ax e).list k = s.list k := by
  unfold State.tellLate State.markLate; repeat' split
  all_goals simp

/-- The freeing of an entry changes no list: the entry has left its list already. -/
theorem State.freeEntry_list (s : State) (e : Entry) (k : Axis) : (s.freeEntry e).list k = s.list k := by
  unfold State.freeEntry; dsimp only; split
  · rw [State.lowerPending_list, State.freeNumber_list]
  · rw [State.freeNumber_list]

/-- The list after one release: the entry is gone, or stands at its next grid point (R32, R34). -/
theorem State.release_list (s : State) (ax : Axis) (e : Entry) :
    (s.release ax e).list ax =
      if e.repeats = 0 then s.list ax
      else insertByLead (((s.actOn ax e).tellLate ax e).pos ax) e.again (s.list ax) := by
  unfold State.release; dsimp only; split
  · rw [State.freeEntry_list, State.tellLate_list, State.actOn_list]
  · rw [State.insert, State.list_setList, State.tellLate_list, State.actOn_list]

theorem passBound_insertByLead (p : Pos) (e : Entry) (l : List Entry) :
    passBound (insertByLead p e l) = 1 + e.repeats.toNat + passBound l := by
  unfold passBound
  rw [((insertByLead_perm p e l).map _).sum_eq]; rfl

/-- One release uses up one of the releases that a pass can make (R33). -/
theorem State.passBound_release {s : State} {ax : Axis} {e : Entry} {rest : List Entry}
    (hl : s.list ax = e :: rest) :
    passBound (s.list ax) = passBound (((s.setList ax rest).release ax e).list ax) + 1 := by
  rw [State.release_list, State.list_setList, hl]
  have hc : passBound (e :: rest) = 1 + e.repeats.toNat + passBound rest := rfl
  split
  · rename_i h0; rw [hc, h0]; simp; omega
  · rename_i h0
    have hpos : 0 < e.repeats.toNat := by
      rcases Nat.eq_zero_or_pos e.repeats.toNat with h | h
      · exact absurd (BitVec.eq_of_toNat_eq h) h0
      · exact h
    have : (e.again).repeats.toNat = e.repeats.toNat - 1 := by
      show (e.repeats - 1).toNat = _
      have := e.repeats.isLt
      rw [BitVec.toNat_sub]; simp; omega
    rw [passBound_insertByLead, hc, this]; omega

/-- A pass whose head is reached is that release and then the pass on what it leaves (R24, R33). -/
theorem State.releasePass_cons {s : State} {ax : Axis} {e : Entry} {rest : List Entry}
    (hl : s.list ax = e :: rest) (hr : reached (s.pos ax) e.due = true) :
    s.releasePass ax = ((s.setList ax rest).release ax e).releasePass ax := by
  unfold State.releasePass
  rw [State.passBound_release hl, State.passLoop_succ hl hr]

/-- A pass over a list whose head is not reached leaves the part as it is. -/
theorem State.releasePass_quiet {s : State} {ax : Axis} (h : s.ListQuiet ax) : s.releasePass ax = s :=
  State.passLoop_quiet h _

end Sys2Proof.Machine
end

