-- ==== Sys2Proof/Laws/Frames.lean ====
section
/-!
SUPPORT. What the events of the Schedule, the detectors, the lines and the parser leave alone: axes, banks, the
interrupt block, the host bus and the ring's words are changed by other commands only.
-/
namespace Sys2Proof.Machine

/-- The blocks that no announced event changes: axes, banks, FB levels, interrupt block, host bus, the ring but for
its read index, and the queue of commands. -/
structure State.SameFixed (s t : State) : Prop where
  time : t.t = s.t
  enc1 : t.enc1 = s.enc1
  enc2 : t.enc2 = s.enc2
  bank0 : t.bank0 = s.bank0
  bank1 : t.bank1 = s.bank1
  active : t.active = s.active
  fb : t.fb = s.fb
  irq : t.irq = s.irq
  bus : t.bus = s.bus
  pending : t.pending = s.pending
  words : t.ring.words = s.ring.words
  publish : t.ring.publish = s.ring.publish
  fill : t.ring.fill = s.ring.fill

/-- The ring and the parser are as they were. -/
structure State.SameRing (s t : State) : Prop where
  ring : t.ring = s.ring
  parser : t.parser = s.parser

/-- Both frames of an event of the Schedule or of the lines. -/
structure State.SameOutside (s t : State) : Prop extends State.SameFixed s t, State.SameRing s t

theorem State.SameFixed.refl (s : State) : s.SameFixed s := by constructor <;> rfl

theorem State.SameFixed.trans {a b c : State} (h : a.SameFixed b) (k : b.SameFixed c) : a.SameFixed c := by
  constructor
  · exact k.time.trans h.time
  · exact k.enc1.trans h.enc1
  · exact k.enc2.trans h.enc2
  · exact k.bank0.trans h.bank0
  · exact k.bank1.trans h.bank1
  · exact k.active.trans h.active
  · exact k.fb.trans h.fb
  · exact k.irq.trans h.irq
  · exact k.bus.trans h.bus
  · exact k.pending.trans h.pending
  · exact k.words.trans h.words
  · exact k.publish.trans h.publish
  · exact k.fill.trans h.fill

theorem State.SameOutside.refl (s : State) : s.SameOutside s := ⟨.refl s, ⟨rfl, rfl⟩⟩

theorem State.SameOutside.trans {a b c : State} (h : a.SameOutside b) (k : b.SameOutside c) :
    a.SameOutside c :=
  ⟨h.toSameFixed.trans k.toSameFixed, ⟨k.ring.trans h.ring, k.parser.trans h.parser⟩⟩

/-- A state that agrees on every field of the frame. -/
theorem State.SameOutside.of_eq {s t : State} (h : t = { s with
      tList := t.tList, e1List := t.e1List, e2List := t.e2List, free := t.free, slots := t.slots
      dets := t.dets, lines := t.lines, queue := t.queue, engine := t.engine }) : s.SameOutside t := by
  rw [h]; exact ⟨by constructor <;> rfl, ⟨rfl, rfl⟩⟩

variable (s : State)

/-! ### Updates -/

theorem State.offer_outside (r : Report) : s.SameOutside (s.offer r) := .of_eq rfl

theorem State.setLine_outside (n : Fin 16) (l : Line) : s.SameOutside (s.setLine n l) := .of_eq rfl

theorem State.setDet_outside (n : Fin 8) (d : Detector) : s.SameOutside (s.setDet n d) := .of_eq rfl

theorem State.setSlot_outside (i : Fin 64) (x : Slot) : s.SameOutside (s.setSlot i x) := .of_eq rfl

theorem State.setItem_outside (i : Fin 64) (x : Option Item) : s.SameOutside (s.setItem i x) := .of_eq rfl

theorem State.freeNumber_outside (n : Nat) : s.SameOutside (s.freeNumber n) := .of_eq rfl

theorem State.setList_outside (ax : Axis) (l : List Entry) : s.SameOutside (s.setList ax l) := by
  cases ax <;> exact .of_eq rfl

theorem State.insert_outside (ax : Axis) (e : Entry) : s.SameOutside (s.insert ax e) :=
  s.setList_outside ax _

/-! ### Items -/

theorem State.tally_outside (h : Handle) (a : Answer) : s.SameOutside (s.tally h a) := by
  unfold State.tally; split
  · exact s.setItem_outside _ _
  · exact .refl s

theorem State.applyDefault_outside (h : Handle) (k : Fin 128) (ax : Axis) (p : Pos) :
    s.SameOutside (s.applyDefault h k ax p) := by
  unfold State.applyDefault; split
  · split
    · exact (s.setItem_outside _ _).trans (State.offer_outside _ _)
    · exact .refl s
  · exact .refl s

theorem State.markLate_outside (h : Handle) : s.SameOutside (s.markLate h) := by
  unfold State.markLate; split
  · exact s.setItem_outside _ _
  · exact .refl s

theorem State.lowerPending_outside (h : Handle) : s.SameOutside (s.lowerPending h) := by
  unfold State.lowerPending; split
  · dsimp only
    split
    · exact (s.offer_outside _).trans (State.setItem_outside _ _ _)
    · exact s.setItem_outside _ _
  · exact .refl s

theorem State.engineNotice_outside (before : State) : s.SameOutside (s.engineNotice before) := by
  unfold State.engineNotice; split
  · exact .of_eq rfl
  · exact .refl s

theorem State.freeNumbers_outside (es : List Entry) : s.SameOutside (s.freeNumbers es) := by
  unfold State.freeNumbers
  induction es generalizing s with
  | nil => exact .refl s
  | cons e es ih => exact (s.freeNumber_outside _).trans (ih _)

theorem State.removeEntries_outside (p : Entry → Bool) : s.SameOutside (s.removeEntries p) :=
  State.SameOutside.trans (b := { s with
    tList := s.tList.filter fun e => !p e
    e1List := s.e1List.filter fun e => !p e
    e2List := s.e2List.filter fun e => !p e }) (.of_eq rfl) (State.freeNumbers_outside _ _)

/-! ### Lines -/

theorem State.request_outside (n : Fin 16) (q : FiringRequest) : s.SameOutside (s.request n q).1 := by
  rw [State.request_eq]; exact .of_eq rfl

theorem State.endPulse_outside (n : Fin 16) (u : Pulse) (r : EndReason) :
    s.SameOutside (s.endPulse n u r) := by
  rw [State.endPulse_eq]; exact .of_eq rfl

theorem State.pulseEnd_outside (n : Fin 16) : s.SameOutside (s.pulseEnd n) := by
  unfold State.pulseEnd; split
  · split
    · exact s.endPulse_outside _ _ _
    · exact .refl s
  · exact .refl s

theorem State.maxOnExpiry_outside (n : Fin 16) : s.SameOutside (s.maxOnExpiry n) := by
  unfold State.maxOnExpiry; split
  · split
    · split
      · exact s.endPulse_outside _ _ _
      · exact (s.offer_outside _).trans (State.endPulse_outside _ _ _ _)
    · exact .refl s
  · exact .refl s

theorem State.recoveryEnd_outside (n : Fin 16) : s.SameOutside (s.recoveryEnd n) := by
  unfold State.recoveryEnd; dsimp only; split
  · split
    · split <;> exact s.setLine_outside _ _
    · exact .refl s
  · exact .refl s

theorem State.offerSlotDrop_outside (n : Fin 16) (r : DropReason) : s.SameOutside (s.offerSlotDrop n r) := by
  rw [State.offerSlotDrop_eq]; exact .of_eq rfl

theorem State.offerFireDone_outside (n : Fin 16) (u : Pulse) (r : EndReason) :
    s.SameOutside (s.offerFireDone n u r) := by
  rw [State.offerFireDone_eq]; exact .of_eq rfl

theorem State.shutdown_outside (n : Fin 16) : s.SameOutside (s.shutdown n) := by
  unfold State.shutdown; split
  · exact ((s.offerFireDone_outside _ _ _).trans (State.offerSlotDrop_outside _ _ _)).trans
      (State.setLine_outside _ _ _)
  · exact (s.offerSlotDrop_outside _ _).trans (State.setLine_outside _ _ _)

theorem State.raiseFault_outside (n : Fin 16) (before : Line) : s.SameOutside (s.raiseFault n before) := by
  unfold State.raiseFault; dsimp only
  refine State.SameOutside.trans ?_ (State.offer_outside _ _)
  split
  · exact s.setLine_outside _ _
  · exact (s.setLine_outside _ _).trans (State.shutdown_outside _ _)

theorem State.monitorSample_outside (n : Fin 16) : s.SameOutside (s.monitorSample n) := by
  unfold State.monitorSample; dsimp only; split
  · unfold State.takeSample; dsimp only; split
    · exact s.setLine_outside _ _
    · split
      · exact s.setLine_outside _ _
      · exact (s.setLine_outside _ _).trans (State.raiseFault_outside _ _ _)
  · exact .refl s

/-! ### The Schedule -/

theorem State.actOn_outside (ax : Axis) (e : Entry) : s.SameOutside (s.actOn ax e) := by
  unfold State.actOn; extract_lets p; split
  · exact s.applyDefault_outside _ _ _ _
  · exact .refl s
  · exact s.request_outside _ _
  · extract_lets s1
    have h : s.SameOutside s1 := by
      unfold s1; split
      · exact .refl s
      · exact s.applyDefault_outside _ _ _ _
    split
    · exact (h.trans (State.request_outside _ _ _)).trans (State.tally_outside _ _ _)
    · exact h

theorem State.tellLate_outside (ax : Axis) (e : Entry) : s.SameOutside (s.tellLate ax e) := by
  unfold State.tellLate; split
  · split
    · exact .refl s
    · exact s.markLate_outside _
  · exact .refl s

theorem State.freeEntry_outside (e : Entry) : s.SameOutside (s.freeEntry e) := by
  unfold State.freeEntry; dsimp only; split
  · exact (s.freeNumber_outside _).trans (State.lowerPending_outside _ _)
  · exact s.freeNumber_outside _

/-- One release changes lists, free list, slots, lines, queue and nothing else (R35). -/
theorem State.release_outside (ax : Axis) (e : Entry) : s.SameOutside (s.release ax e) := by
  unfold State.release; dsimp only
  have h := (s.actOn_outside ax e).trans (State.tellLate_outside _ ax e)
  split
  · exact h.trans (State.freeEntry_outside _ _)
  · exact h.trans (State.insert_outside _ _ _)

theorem State.releasePass_outside (ax : Axis) : s.SameOutside (s.releasePass ax) :=
  State.passLoop_induct (fun a b => a.SameOutside b) .refl
    (fun _ _ _ _ h _ _ => (h.trans (State.setList_outside _ _ _)).trans (State.release_outside _ _ _)) _ s

theorem State.passEvent_outside (ax : Axis) : s.SameOutside (s.passEvent ax) :=
  (s.releasePass_outside ax).trans (State.engineNotice_outside _ _)

theorem State.expire_outside (ax : Axis) (p : Pos) : s.SameOutside (s.expire ax p) := by
  have h : ∀ (es : List Entry) (t : State), t.SameOutside (es.foldl (fun s e => s.freeEntry e) t) := by
    intro es
    induction es with
    | nil => exact .refl
    | cons e es ih => exact fun t => (t.freeEntry_outside e).trans (ih _)
  exact (s.setList_outside ax _).trans (h _ _)

theorem State.admitItem_outside (q : AdmissionRequest) : s.SameOutside (s.admitItem q) := by
  unfold State.admitItem; split
  · have h : ∀ (ax : Axis) (es : List Entry) (t : State),
        t.SameOutside (es.foldl (fun s e => s.insert ax e) t) := by
      intro ax es
      induction es with
      | nil => exact .refl
      | cons e es ih => exact fun t => (t.insert_outside ax e).trans (ih _)
    unfold State.admitTo; extract_lets hd hh s1 s2
    have h2 : s.SameOutside s2 := (s.setSlot_outside _ _).trans (.of_eq rfl)
    exact (h2.trans (h _ _ _)).trans (State.releasePass_outside _ _)
  · exact .refl s

/-! ### Detectors -/

theorem State.detect_outside (n : Fin 8) (c : Capture) : s.SameOutside (s.detect n c) := by
  unfold State.detect; dsimp only
  refine State.SameOutside.trans ?_ (State.setDet_outside _ _ _)
  unfold State.detectionEvent; dsimp only; split
  · exact s.offer_outside _
  · exact s.admitItem_outside _

theorem State.qualificationComplete_outside (n : Fin 8) : s.SameOutside (s.qualificationComplete n) := by
  unfold State.qualificationComplete; dsimp only; split
  · split
    · exact s.detect_outside _ _
    · exact .refl s
  · exact .refl s

theorem State.lockoutEnd_outside (n : Fin 8) : s.SameOutside (s.lockoutEnd n) := by
  unfold State.lockoutEnd; dsimp only; split
  · exact s.setDet_outside _ _
  · exact .refl s

/-! ### The parser's fence -/

theorem State.passPacket_fixed (n : Nat) : s.SameFixed (s.passPacket n) := by constructor <;> rfl

theorem State.fenceNotice_fixed : s.SameFixed s.fenceNotice := by
  unfold State.fenceNotice; split
  · split
    · exact s.passPacket_fixed _
    · exact .refl s
  · exact .refl s

theorem State.fenceTimeout_fixed : s.SameFixed s.fenceTimeout := by
  unfold State.fenceTimeout; split
  · split
    · split
      · exact s.passPacket_fixed _
      · exact (s.offer_outside _).toSameFixed.trans (State.passPacket_fixed _ _)
    · exact .refl s
  · exact .refl s

/-! ### Events owed (R4) -/

theorem State.eachLine_outside {f : State → Fin 16 → State} (h : ∀ (t : State) n, t.SameOutside (f t n)) :
    s.SameOutside (s.eachLine f) := by
  unfold State.eachLine
  generalize allLines = l
  induction l generalizing s with
  | nil => exact .refl s
  | cons n l ih => exact (h s n).trans (ih _)

theorem State.eachDetector_outside {f : State → Fin 8 → State} (h : ∀ (t : State) n, t.SameOutside (f t n)) :
    s.SameOutside (s.eachDetector f) := by
  unfold State.eachDetector
  generalize allDetectors = l
  induction l generalizing s with
  | nil => exact .refl s
  | cons n l ih => exact (h s n).trans (ih _)

/-- The events that an axis owes leave the axes, the banks, the interrupt block, the host bus and the ring's words
as they are. -/
theorem State.settleAxis_fixed (enc : Enc) : s.SameFixed (s.settleAxis enc) := by
  have hd : ∀ (t : State) n, t.SameOutside (t.lockoutEndOn enc.axis n) := by
    intro t n; unfold State.lockoutEndOn; split
    · exact t.lockoutEnd_outside n
    · exact .refl t
  have hl : ∀ (t : State) n, t.SameOutside (t.pulseEndOn enc n) := by
    intro t n; unfold State.pulseEndOn; split
    · split
      · exact t.pulseEnd_outside n
      · exact .refl t
    · exact .refl t
  have h := (((s.passEvent_outside enc.axis).trans (State.eachDetector_outside _ hd)).trans
    (State.eachLine_outside _ hl)).toSameFixed
  unfold State.settleAxis; dsimp only; split
  · exact h.trans (State.fenceNotice_fixed _)
  · exact h

/-- The same of all events owed before a tick. -/
theorem State.settleAll_fixed : s.SameFixed s.settleAll := by
  have h := (((s.passEvent_outside .t).trans (State.passEvent_outside _ .e1)).trans
    (State.passEvent_outside _ .e2))
  have h := h.trans (State.eachDetector_outside _ State.qualificationComplete_outside)
  have h := h.trans (State.eachDetector_outside _ State.lockoutEnd_outside)
  have h := h.trans (State.eachLine_outside _ State.pulseEnd_outside)
  have h := h.trans (State.eachLine_outside _ State.maxOnExpiry_outside)
  have h := h.trans (State.eachLine_outside _ State.recoveryEnd_outside)
  have h := h.trans (State.eachLine_outside _ State.monitorSample_outside)
  exact (h.toSameFixed.trans (State.fenceNotice_fixed _)).trans (State.fenceTimeout_fixed _)

/-! ### Commands one after another -/

/-- Commands one after another, and then more, are all of them in that order. -/
theorem runs_append {s u t : State} {a b : List Instr} (ha : Claims.Runs s a u) (hb : Claims.Runs u b t) :
    Claims.Runs s (a ++ b) t := by
  induction a generalizing s with
  | nil => rw [show u = s from ha] at hb; exact hb
  | cons c cs ih =>
    obtain ⟨v, hv, hr⟩ := ha
    exact ⟨v, hv, ih hr⟩

/-- One row for each index of a list is the fold of that row's event. -/
theorem runs_map {α : Type} {s : State} {f : State → α → State} {c : α → Instr}
    (h : ∀ t n, exec (c n) t = .next (f t n)) (l : List α) : Claims.Runs s (l.map c) (l.foldl f s) := by
  induction l generalizing s with
  | nil => exact (rfl : s = s)
  | cons n l ih => exact ⟨f s n, h s n, ih⟩

end Sys2Proof.Machine
end

