-- ==== Sys2Proof/Laws/Memory.lean ====
section
/-!
SUPPORT. The ring's memory: a read after a write, and the canonical form that every write keeps.
-/
namespace Sys2Proof.Machine

@[simp] theorem Memory.read_nil (i : Nat) : Memory.read [] i = Memory.unlisted := rfl

theorem Memory.read_cons (a : Nat) (w : Word) (m : Memory) (i : Nat) :
    Memory.read ((a, w) :: m) i = if i = a then w else Memory.read m i := rfl

theorem Memory.read_remove (m : Memory) (i j : Nat) :
    (m.remove i).read j = if j = i then Memory.unlisted else m.read j := by
  induction m with
  | nil => simp [Memory.remove]
  | cons c m ih =>
    obtain ⟨a, w⟩ := c
    by_cases ha : a = i
    · subst ha
      have : Memory.remove ((a, w) :: m) a = Memory.remove m a := by simp [Memory.remove]
      rw [this, ih]
      by_cases hj : j = a <;> simp [Memory.read_cons, hj]
    · have : Memory.remove ((a, w) :: m) i = (a, w) :: Memory.remove m i := by simp [Memory.remove, ha]
      rw [this, Memory.read_cons, ih, Memory.read_cons]
      by_cases hj : j = a
      · subst hj; simp [ha]
      · simp [hj]

theorem Memory.read_place (i : Nat) (w : Word) (m : Memory) (h : ∀ c ∈ m, c.1 ≠ i) (j : Nat) :
    (Memory.place i w m).read j = if j = i then w else m.read j := by
  induction m with
  | nil => simp [Memory.place, Memory.read_cons]
  | cons c m ih =>
    obtain ⟨a, v⟩ := c
    have ha : a ≠ i := h (a, v) (by simp)
    have ih := ih fun c hc => h c (by simp [hc])
    unfold Memory.place
    split
    · rw [Memory.read_cons]
    · rw [Memory.read_cons, ih, Memory.read_cons]
      by_cases hj : j = a
      · subst hj; simp [ha]
      · simp [hj]

theorem Memory.index_of_mem_remove {m : Memory} {i : Nat} {c : Nat × Word} (h : c ∈ m.remove i) :
    c ∈ m ∧ c.1 ≠ i := by
  simpa [Memory.remove] using h

/-- A read after a write gives the word written at its own index, and elsewhere what was there. -/
theorem Memory.read_write (m : Memory) (i : Nat) (w : Word) (j : Nat) :
    (m.write i w).read j = if j = i then w else m.read j := by
  unfold Memory.write
  split
  · subst_vars; rw [Memory.read_remove]
  · rw [Memory.read_place _ _ _ fun c hc => (Memory.index_of_mem_remove hc).2, Memory.read_remove]
    split <;> rfl

theorem Memory.wf_nil : Memory.wf [] := by simp [Memory.wf]

theorem Memory.wf_remove {m : Memory} (h : m.wf) (i : Nat) : (m.remove i).wf :=
  ⟨h.1.filter _, fun c hc => h.2 c (Memory.index_of_mem_remove hc).1⟩

theorem Memory.mem_place {i : Nat} {w : Word} {m : Memory} {c : Nat × Word} :
    c ∈ Memory.place i w m ↔ c = (i, w) ∨ c ∈ m := by
  induction m with
  | nil => simp [Memory.place]
  | cons d m ih =>
    obtain ⟨a, v⟩ := d
    unfold Memory.place
    split
    · simp
    · simp [ih, or_left_comm]

theorem Memory.pairwise_place {i : Nat} {w : Word} {m : Memory}
    (h : List.Pairwise (fun a b : Nat × Word => a.1 < b.1) m) (hi : ∀ c ∈ m, c.1 ≠ i) :
    List.Pairwise (fun a b : Nat × Word => a.1 < b.1) (Memory.place i w m) := by
  induction m with
  | nil => simp [Memory.place]
  | cons d m ih =>
    obtain ⟨a, v⟩ := d
    have ha : a ≠ i := hi (a, v) (by simp)
    rw [List.pairwise_cons] at h
    have ih := ih h.2 fun c hc => hi c (by simp [hc])
    unfold Memory.place
    split
    · rename_i hlt
      refine List.pairwise_cons.2 ⟨?_, List.pairwise_cons.2 h⟩
      intro c hc
      rcases List.mem_cons.1 hc with rfl | hc
      · exact hlt
      · exact Nat.lt_trans hlt (h.1 c hc)
    · refine List.pairwise_cons.2 ⟨?_, ih⟩
      intro c hc
      rcases Memory.mem_place.1 hc with rfl | hc
      · show a < i; omega
      · exact h.1 c hc

/-- Every write to an index of the ring keeps the canonical form. -/
theorem Memory.wf_write {m : Memory} (h : m.wf) {i : Nat} (hi : i < Config.ringWords) (w : Word) :
    (m.write i w).wf := by
  have hr := Memory.wf_remove h i
  unfold Memory.write
  split
  · exact hr
  · rename_i hw
    refine ⟨Memory.pairwise_place hr.1 fun c hc => (Memory.index_of_mem_remove hc).2, fun c hc => ?_⟩
    rcases Memory.mem_place.1 hc with rfl | hc
    · exact ⟨hi, hw⟩
    · exact hr.2 c hc

/-- A ring index is an index of the memory. -/
theorem RingIndex.toNat_lt (i : RingIndex) : i.toNat < Config.ringWords := i.isLt

/-- An index below every listed one reads as unlisted. -/
theorem Memory.read_of_lt {m : Memory} {i : Nat} (h : ∀ c ∈ m, i < c.1) : m.read i = Memory.unlisted := by
  induction m with
  | nil => rfl
  | cons c m ih =>
    obtain ⟨a, w⟩ := c
    have ha : i < a := h (a, w) (by simp)
    rw [Memory.read_cons, if_neg (by omega), ih fun c hc => h c (by simp [hc])]

/-- The memory after hardware reset has the canonical form. -/
theorem State.reset_memory_wf : Memory.wf State.reset.ring.words := Memory.wf_nil

/-- What RING_DATA makes of the words (R164). -/
theorem State.ringData_words (s : State) (w : Word) :
    (s.ringData w).ring.words =
      if s.ring.free = 0 then s.ring.words else Memory.write s.ring.words s.ring.fill.toNat w := by
  unfold State.ringData; split <;> rfl

/-- The word at each index after RING_DATA (R164). -/
theorem State.ringWord_ringData (s : State) (w : Word) (i : RingIndex) :
    (s.ringData w).ringWord i =
      if s.ring.free ≠ 0 ∧ i = s.ring.fill then w else s.ringWord i := by
  unfold State.ringWord
  rw [State.ringData_words]
  by_cases h : s.ring.free = 0
  · simp [h]
  · simp only [h, if_false, Memory.read_write, ne_eq, not_false_eq_true, true_and, BitVec.toNat_inj]

/-- RING_DATA keeps the canonical form. -/
theorem State.ringData_wf {s : State} (h : Memory.wf s.ring.words) (w : Word) :
    Memory.wf (s.ringData w).ring.words := by
  rw [State.ringData_words]
  split
  · exact h
  · exact Memory.wf_write h (RingIndex.toNat_lt _) w

/-! ### The regions (R163) -/

theorem Ring.published_lt (r : Ring) : r.published < 1024 := (r.publish - r.read).isLt

theorem Ring.unpublished_lt (r : Ring) : r.unpublished < 1024 := (r.fill - r.publish).isLt

theorem Ring.free_lt (r : Ring) : r.free < 1024 := (r.read - r.fill - 1).isLt

/-- The free space is 1,023 less the words between read and fill. -/
theorem Ring.free_eq (r : Ring) : r.free = 1023 - (r.fill - r.read).toNat := by
  unfold Ring.free
  generalize hd : r.fill - r.read = d
  have h : r.read - r.fill - 1 = 1023 - d := by subst hd; bv_omega
  rw [h]
  have := d.isLt
  bv_omega

end Sys2Proof.Machine
end

