-- ==== Sys2Proof/Laws/Packets.lean ====
section
/-!
SUPPORT. Packets in words: the codes read back, the words' fields, and the event that takes a complete packet.
-/
namespace Sys2Proof

/-! ### Codes read back (11.3.1) -/

@[simp] theorem decodeFin_val (n : Nat) (i : Fin n) : decodeFin n i.val = some i := by
  simp [decodeFin]

@[simp] theorem decodeAxis_code (x : Axis) : decodeAxis x.code = some x := by cases x <;> rfl
@[simp] theorem decodeEnc_code (x : Enc) : decodeEnc x.code = some x := by cases x <;> rfl
@[simp] theorem decodeMode_code (x : AxisMode) : decodeMode x.code = some x := by cases x <;> rfl
@[simp] theorem decodePolicy_code (x : Policy) : decodePolicy x.code = some x := by cases x <;> rfl
@[simp] theorem decodeFlag_code (x : Bool) : decodeFlag (flagCode x) = some x := by cases x <;> rfl
@[simp] theorem decodeEdge_code (x : Edge) : decodeEdge x.code = some x := by cases x <;> rfl
@[simp] theorem decodeCollision_code (x : CollisionPolicy) : decodeCollision x.code = some x := by
  cases x <;> rfl
@[simp] theorem decodeMonitorAction_code (x : MonitorAction) : decodeMonitorAction x.code = some x := by
  cases x <;> rfl
@[simp] theorem decodeThreshold_toNat (x : Threshold) : decodeThreshold x.toNat = some x := by cases x <;> rfl
@[simp] theorem decodeUnit_code (x : WidthUnit) : decodeUnit x.code = some x := by cases x <;> rfl
@[simp] theorem decodeStepAction_code (x : StepAction) : decodeStepAction x.code = some x := by cases x <;> rfl
@[simp] theorem decodeCondition_code (x : Condition) : decodeCondition x.code = some x := by cases x <;> rfl
@[simp] theorem decodeVerdict_code (x : Verdict) : decodeVerdict x.code = some x := by cases x <;> rfl
@[simp] theorem decodeDetectorAction_code (x : DetectorAction) : decodeDetectorAction x.code = some x := by
  cases x <;> rfl
@[simp] theorem decodeLineAction_code (x : LineAction) : decodeLineAction x.code = some x := by cases x <;> rfl
@[simp] theorem decodeFenceCond_code (x : FenceCond) : decodeFenceCond x.code = some x := by cases x <;> rfl
@[simp] theorem decodeKind_code (x : PacketKind) : decodeKind x.code = some x := by cases x <;> rfl

@[simp] theorem decodeFenceAxis_code (x : FenceAxis) : decodeFenceAxis x.code = some x := by
  cases x with
  | one ax => cases ax <;> rfl
  | all => rfl

/-! ### Fields of words -/

@[simp] theorem loByte_word (hi lo : ByteField) : loByte (word hi lo) = lo := by
  apply BitVec.eq_of_getLsbD_eq
  intro i hi'
  simp only [loByte, word, BitVec.getLsbD_extractLsb', BitVec.getLsbD_append]
  simp [hi']

@[simp] theorem hiByte_word (hi lo : ByteField) : hiByte (word hi lo) = hi := by
  apply BitVec.eq_of_getLsbD_eq
  intro i hi'
  simp only [hiByte, word, BitVec.getLsbD_extractLsb', BitVec.getLsbD_append]
  simp [hi']

@[simp] theorem word_bytes (w : Word) : word (hiByte w) (loByte w) = w := by
  apply BitVec.eq_of_getLsbD_eq
  intro i hi
  simp only [word, hiByte, loByte, BitVec.getLsbD_append, BitVec.getLsbD_extractLsb']
  by_cases h : i < 8
  · simp [h]
  · simp only [h, decide_false, if_false]
    rw [Nat.add_sub_cancel' (by omega)]
    simp; omega

@[simp] theorem positionOf_halves (p : Pos) : positionOf (lowHalf p) (highHalf p) = p := by
  apply BitVec.eq_of_getLsbD_eq
  intro i hi
  simp only [positionOf, lowHalf, highHalf, BitVec.getLsbD_append, BitVec.getLsbD_extractLsb']
  by_cases h : i < 16
  · simp [h]
  · simp only [h, decide_false, if_false]
    rw [Nat.add_sub_cancel' (by omega)]
    simp; omega

theorem hiByte_toNat (w : Word) : (hiByte w).toNat = w.toNat / 256 := by
  have := w.isLt
  simp only [hiByte, BitVec.extractLsb'_toNat, Nat.shiftRight_eq_div_pow]
  omega

theorem loByte_toNat (w : Word) : (loByte w).toNat = w.toNat % 256 := by
  simp [loByte, BitVec.extractLsb'_toNat]

/-! ### Lengths (R169) -/

@[simp] theorem Step.words_length (st : Step) : st.words.length = 6 := rfl

theorem Step.words_flatten_length (steps : List Step) :
    (steps.map Step.words).flatten.length = 6 * steps.length := by
  induction steps with
  | nil => rfl
  | cons st steps ih => simp [ih]; omega

/-- A well-formed packet has at most 255 body words (R169). -/
theorem Packet.body_length_le {p : Packet} (h : p.wf = true) : p.body.length ≤ 255 := by
  cases p <;> simp only [Packet.wf, Packet.body, List.length_cons, List.length_nil, List.length_replicate,
    Step.words_flatten_length, Bool.and_eq_true, decide_eq_true_eq] at h ⊢ <;> omega

theorem PacketKind.code_lt (k : PacketKind) : k.code < 256 := by cases k <;> decide

/-- The header of a well-formed packet names its kind and length (11.3). -/
theorem headerOf_header {p : Packet} (h : p.wf = true) : headerOf p.header = some (p.kind, p.body.length) := by
  have hl : p.body.length < 256 := Nat.lt_succ_of_le (Packet.body_length_le h)
  have hk := p.kind.code_lt
  simp only [headerOf, headerLength, Packet.header, wordOf, hiByte_word, loByte_word, BitVec.toNat_ofNat]
  rw [Nat.mod_eq_of_lt (by simpa using hl), Nat.mod_eq_of_lt (by simpa using hk), decodeKind_code]
  rfl

namespace Machine

/-! ### The event that takes a packet (R172, R173) -/

/-- A ready packet stands complete. -/
theorem State.completePacket_ready {s : State} {p : Packet} (h : s.PacketReady p) :
    s.completePacket = some (p.kind, p.body.length) := by
  obtain ⟨hw, hr, hl, -⟩ := h
  have hl : 1 + p.body.length ≤ s.ring.published := by simpa [Packet.words, Nat.add_comm] using hl
  simp [State.completePacket, hr, headerOf_header hw, hl]

/-- A ready packet whose body reads back is given to its owner with its length. -/
theorem State.onPacket_ready {s : State} {p : Packet} (h : s.PacketReady p)
    (hd : decodeBody p.kind p.body = some p) (take : Nat → Packet → State) :
    s.onPacket p.kind take = take p.body.length p := by
  simp [State.onPacket, State.completePacket_ready h, h.2.2.2, hd]

/-- All that the taking of a packet can do: nothing, a BAD_FIELD halt, or the owner's work (R173). -/
theorem State.onPacket_cases (s : State) (kind : PacketKind) (take : Nat → Packet → State) :
    s.onPacket kind take = s ∨
    (∃ len, s.completePacket = some (kind, len) ∧ decodeBody kind (s.bodyWords len) = none ∧
      s.onPacket kind take = s.halt .badField) ∨
    (∃ len p, s.completePacket = some (kind, len) ∧ decodeBody kind (s.bodyWords len) = some p ∧
      s.onPacket kind take = take len p) := by
  unfold State.onPacket
  cases hc : s.completePacket with
  | none => exact .inl rfl
  | some x =>
    obtain ⟨k, len⟩ := x
    by_cases hk : k = kind
    · subst hk
      cases hb : decodeBody k (s.bodyWords len) with
      | none => exact .inr (.inl ⟨len, rfl, hb, by simp [hb]⟩)
      | some p => exact .inr (.inr ⟨len, p, rfl, hb, by simp [hb]⟩)
    · exact .inl (by simp [hk])

/-- No packet stands complete in a parser that keeps no header. -/
theorem State.completePacket_eq_none {s : State} (h : ∀ w, s.parser.state ≠ .running (some w)) :
    s.completePacket = none := by
  unfold State.completePacket
  split
  · exact absurd ‹_› (h _)
  · rfl

/-- A halt leaves every field but the parser and the queue (R175). -/
theorem State.halt_eq (s : State) (code : HaltCode) :
    s.halt code =
      { s with
        parser := { state := .halted, haltCode := code, haltIndex := s.ring.read }
        queue := s.queue.offer (cmdHaltReport s.ring.read code (s.ringWord s.ring.read) s.t) } := rfl

/-- The body words read by the parser, one by one. -/
@[simp] theorem State.bodyWords_length (s : State) (len : Nat) : (s.bodyWords len).length = len := by
  simp [State.bodyWords]

end Machine

end Sys2Proof
end

