-- ==== Sys2Proof/Tests/Slice0.lean ====
section
/-!
SUPPORT. Tests of the model on small states, each about one step, and for every statement with hypotheses a named
witness that meets them. Expected results come from the manual's worked examples and tables, as each comment says.
-/
namespace Sys2Proof.Tests

set_option Elab.async false

open Sys2Proof.Machine

/-! ### Helpers -/

/-- The state after a command; a stop would leave it as it was. -/
def after (c : Instr) (s : State) : State :=
  match exec c s with
  | .next t => t
  | .fault _ => s
  | .refused _ => s

/-- The ring's memory with words from index 0 on. -/
def memoryOf (ws : List Word) : Memory :=
  (List.range ws.length).foldl (fun m k => Memory.write m k (ws.getD k 0)) []

/-- A packet that stands complete at index 0, its header kept by the parser. -/
def ready (s : State) (p : Packet) : State :=
  { s with
    ring := { words := memoryOf p.words, read := 0, publish := BitVec.ofNat 10 p.words.length
              fill := BitVec.ofNat 10 p.words.length }
    parser := { s.parser with state := .running (some p.header) } }

/-- E1 COUNTING at a position, D = 1, BIDIRECTIONAL. -/
def counting (p : Pos) (s : State) : State :=
  { s with enc1 := { s.enc1 with
      pos := p, cfg := { mode := .counting, divider := 1, policy := .bidirectional, invert := false } } }

/-- A line in a state, with a policy and both ends of its timing. -/
def lineOf (st : LineState) (policy : CollisionPolicy) (minOff maxOn : Word) : Line :=
  { Line.reset with state := st, cfg := { policy := policy, minOff := minOff, maxOn := maxOn, reports := true } }

/-- A pulse that ends at `e` on T, with a guard. -/
def pulseTo (e : Pos) (guard : Option Pos) : Pulse :=
  { start := 0, measure := .time, endPos := e, guard := guard, origin := .host 9, late := false
    deferred := false }

/-- The handle of a first item in slot 0. -/
def h0 : Handle := { gen := 1, slot := 0 }

/-- A pulse entry of that item on E1. -/
def pulseEntry (n : Nat) (due : Pos) (c : Condition) (repeats : ByteField) : Entry :=
  { number := n, axis := .e1, due := due, owner := .item h0 0
    action := .pulse 3 40 .time c, repeats := repeats, spacing := 10 }

/-- A DEADLINE entry of that item on E1. -/
def deadlineEntry (n : Nat) (due : Pos) : Entry :=
  { number := n, axis := .e1, due := due, owner := .item h0 1, action := .deadline, repeats := 0, spacing := 1 }

/-- A host entry on E1. -/
def hostEntry (n : Nat) (due : Pos) : Entry :=
  { number := n, axis := .e1, due := due, owner := .host 7, action := .pulse 3 40 .time .always, repeats := 0
    spacing := 1 }

/-- An item with a number of entries in the lists. -/
def item0 (pending : Nat) (d : Option (Verdict × VerdictSource)) : Item :=
  { origin := .detector 0, bank := .bank0, recipe := 0, axis := .e1, capture := 0, dflt := .accept
    decision := d, tag := none, pending := pending, fired := 0, dropped := 0, late := false }

/-- E1 at 100 with one item in slot 0 and these entries in its list; LINE3 is IDLE. -/
def flying (l : List Entry) (pending : Nat) (d : Option (Verdict × VerdictSource)) : State :=
  { counting 100 State.reset with
    e1List := l
    free := (List.range 256).filter fun n => !(l.map Entry.number).contains n
    slots := State.reset.slots.set 0 { gen := 1, item := some (item0 pending d) }
    lines := State.reset.lines.set 3 (lineOf .idle .reject 0 0) }

/-- A recipe of one PULSE on LINE3 at delay 50, on E1, in the ACTIVE bank. -/
def withRecipe (s : State) : State :=
  { s with bank0 :=
      { headers := s.bank0.headers.set 0 { axis := .e1, first := 0, count := 1, dflt := .accept }
        steps := s.bank0.steps.set 0
          { step := { delay := 50, action := .pulse, line := 3, width := 40, unit := .time, cond := .always
                      repeats := 0, spacing := 1 }, written := true } } }

/-- A record for the queue. -/
def someReport (k : ReportKind) : Report :=
  { kind := k, subject := 5, axis := .t, position := 0, detail := 0, aux1 := 0, aux2 := 0 }

/-- A queue that holds `n` records of one kind. -/
def queueOf (n : Nat) (k : ReportKind) : ReportQueue :=
  { records := (List.range n).map fun i => { report := someReport k, seq := BitVec.ofNat 8 i, lost := 0 }
    seq := BitVec.ofNat 8 n }

/-- The kinds of the records held, head first. -/
def kinds (s : State) : List ReportKind := s.queue.records.map fun r => r.report.kind

/-! ### Well-formedness: each check refuses an ill-formed term -/

/-- A plain step. -/
def step0 : Step :=
  { delay := 0, action := .pulse, line := 0, width := 1, unit := .time, cond := .always, repeats := 0
    spacing := 1 }

/-- A plain SCHEDULE_FIRE. -/
def fire0 : FireFields :=
  { axis := .e1, line := 3, due := 150, width := 40, unit := .time, repeats := 0, spacing := 1, tag := 7 }

theorem test_wf_divider_zero :
    ({ mode := .halted, divider := 0, policy := .bidirectional, invert := false } : AxisSettings).wf = false := by
  decide
theorem test_wf_divider_seventeen :
    ({ mode := .halted, divider := 17, policy := .bidirectional, invert := false } : AxisSettings).wf = false := by
  decide
theorem test_wf_config_axis : (Packet.configAxis .e1
    { mode := .counting, divider := 0, policy := .bidirectional, invert := false }).wf = false := by decide
theorem test_wf_step_count :
    ({ axis := .t, first := 0, count := 17, dflt := .accept } : RecipeHeader).wf = false := by decide
theorem test_wf_recipe_past_pool :
    ({ axis := .t, first := 120, count := 9, dflt := .accept } : RecipeHeader).wf = false := by decide
theorem test_wf_write_recipe :
    (Packet.writeRecipe 0 { axis := .t, first := 120, count := 9, dflt := .accept }).wf = false := by decide
theorem test_wf_step_width : ({ step0 with width := 0 } : Step).wf = false := by decide
theorem test_wf_step_spacing : ({ step0 with spacing := 0 } : Step).wf = false := by decide
theorem test_wf_deadline_condition :
    ({ step0 with action := .deadline, cond := .ifAccept } : Step).wf = false := by decide
theorem test_wf_deadline_repeats : ({ step0 with action := .deadline, repeats := 1 } : Step).wf = false := by
  decide
theorem test_wf_no_steps : (Packet.writeSteps 0 []).wf = false := by decide
theorem test_wf_eleven_steps : (Packet.writeSteps 0 (List.replicate 11 step0)).wf = false := by decide
theorem test_wf_steps_past_pool : (Packet.writeSteps 127 [step0, step0]).wf = false := by decide
theorem test_wf_step_within : (Packet.writeSteps 0 [{ step0 with width := 0 }]).wf = false := by decide
theorem test_wf_pad : (Packet.pad 256).wf = false := by decide
theorem test_wf_fence_all :
    (Packet.fence { cond := .axisReached, axis := .all, position := 0, mask := 0, timeout := 0 }).wf = false := by
  decide
theorem test_wf_fire_width : (Packet.scheduleFire { fire0 with width := 0 }).wf = false := by decide
theorem test_wf_fire_spacing : (Packet.scheduleFire { fire0 with spacing := 0 }).wf = false := by decide
theorem test_wf_ring_data_is_not_ignored : (Instr.registerWriteIgnored 2 0).wf = false := by decide
theorem test_wf_command_is_not_ignored : (Instr.registerWriteIgnored 0 6).wf = false := by decide
theorem test_wf_watermark_is_not_ignored : (Instr.registerWriteIgnored 0x0C 64).wf = false := by decide

/-! ### Packets in words (11.3.2, 11.3.3) -/

/-- SCHEDULE_FIRE on E1, LINE8, due 65,546 (10 and 1 in words), width 30 DISTANCE, 2 repeats every 5, tag 9. -/
theorem test_words_schedule_fire :
    decodeBody .scheduleFire [0x0801, 10, 1, 30, 0x0201, 5, 9] =
      some (.scheduleFire { axis := .e1, line := 8, due := 65546, width := 30, unit := .distance, repeats := 2
                            spacing := 5, tag := 9 }) := by decide +kernel

/-- One step written at 22: delay 65,736 (200 and 1), line 8, width 30 DISTANCE, IF_REJECT, 3 repeats every 4. -/
theorem test_words_write_steps :
    decodeBody .writeSteps [22, 200, 0x0801, 30, 0x0100, 0x0302, 4] =
      some (.writeSteps 22
        [{ delay := 65736, action := .pulse, line := 8, width := 30, unit := .distance, cond := .ifReject
           repeats := 3, spacing := 4 }]) := by decide +kernel

theorem test_words_config_detector :
    decodeBody .configDetector [0x0103, 0x040A, 1, 80] =
      some (.configDetector 3
        { edge := .falling, qual := 10, recipe := 4, lockAxis := .e1, lockDist := 80 }) := by decide +kernel

theorem test_words_fence :
    decodeBody .fence [0x0302, 0, 0, 0, 100] =
      some (.fence { cond := .scheduleEmpty, axis := .all, position := 0, mask := 0, timeout := 100 }) := by
  decide +kernel

/-! ### One step of each command -/

/-- R17, R205: T is 0 and the last pair is the levels held at release. -/
theorem test_hardware_reset :
    let t := after (.hardwareReset { a := true, b := true } { a := false, b := false } 0x81 0)
      (counting 100 State.reset)
    t.enc1.pos = 0 ∧ t.enc1.phases = { a := true, b := true } ∧ (t.det 7).lastLevel = true ∧
      (t.det 1).lastLevel = false := by decide +kernel

/-- R1, R3: T wraps. -/
theorem test_tick_wraps : (after (.tick 0) { State.reset with t := 4294967295 }).t = 0 := by decide +kernel

/-- R94: a tick is counted in QUALIFYING. -/
theorem test_tick_counts :
    let d : Detector := { Detector.reset true with
      state := .qualifying { t := 0, e1 := 0, e2 := 0 }
      cfg := { edge := .rising, qual := 2, recipe := 0, lockAxis := .t, lockDist := 0 } }
    ((after (.tick 0) (State.reset.setDet 3 d)).det 3).count = 1 := by decide +kernel

/-- R6: low, low to A high is FORWARD; the position advances with D 1. -/
theorem test_quad_forward :
    (after (.quadTransition .e1 { a := true, b := false }) (counting 100 State.reset)).enc1.pos = 101 := by
  decide +kernel

/-- R6, R12: both inputs at once is an error, reported once. -/
theorem test_quad_error :
    let t := after (.quadTransition .e1 { a := true, b := true }) (counting 100 State.reset)
    t.enc1.pos = 100 ∧ t.enc1.quadError = true ∧ kinds t = [.axisQuadError] := by decide +kernel

/-- R24, R34, R65: a released last entry retires its item. -/
theorem test_release_pass :
    let t := after (.scheduleReleasePass .e1) (flying [pulseEntry 0 100 .always 0] 1 none)
    t.e1List = [] ∧ t.freeCount = 256 ∧ t.output 3 = true ∧ (t.slot 0).item = none ∧ kinds t = [.itemDone] := by
  decide +kernel

/-- R32: a repeat goes to its next grid point. -/
theorem test_release_repeats :
    (after (.scheduleReleasePass .e1) (flying [pulseEntry 0 100 .always 2] 1 none)).e1List =
      [pulseEntry 0 110 .always 1] := by decide +kernel

/-- A detector that waits for a rising edge, with a Q. -/
def waitingDet (q : ByteField) : Detector :=
  { Detector.reset false with
    state := .waiting, cfg := { edge := .rising, qual := q, recipe := 0, lockAxis := .t, lockDist := 0 } }

/-- R92: the capture of the three positions. -/
theorem test_detector_edge :
    ((after (.detectorEdge 2 true) ((counting 100 { State.reset with t := 50 }).setDet 2 (waitingDet 10))).det
      2).state = .qualifying { t := 50, e1 := 100, e2 := 0 } := by decide +kernel

/-- R91: an edge away from the selected level in WAITING changes the last level alone. -/
theorem test_detector_other_edge :
    let d := { waitingDet 10 with lastLevel := true }
    (after (.detectorEdge 2 false) (State.reset.setDet 2 d)).det 2 = { d with lastLevel := false } := by
  decide +kernel

/-- A detector whose count has reached Q. -/
def qualifiedDet (lockDist : Word) : Detector :=
  { Detector.reset true with
    state := .qualifying { t := 0, e1 := 90, e2 := 0 }
    cfg := { edge := .rising, qual := 10, recipe := 0, lockAxis := .e1, lockDist := lockDist }
    count := 10 }

/-- 12.1: an admitted item's handle and due position, and the lockout that follows. -/
theorem test_qualification_admits :
    let t := after (.qualificationComplete 0) (withRecipe ((counting 100 State.reset).setDet 0 (qualifiedDet 80)))
    t.e1List.map Entry.due = [140] ∧ t.handleOf 0 = h0 ∧ (t.det 0).state = .lockout ∧
      (t.det 0).lockoutEnd = 170 := by decide +kernel

/-- R53: a detection refused NO_RECIPE. -/
theorem test_qualification_refused :
    kinds (after (.qualificationComplete 0) ((counting 100 State.reset).setDet 0 (qualifiedDet 0))) =
      [.detectRefused] := by decide +kernel

/-- R97: the end is reached. -/
theorem test_lockout_end :
    let d := { qualifiedDet 10 with state := .lockout, lockoutEnd := 100 }
    ((after (.lockoutEnd 0) ((counting 100 State.reset).setDet 0 d)).det 0).state = .waiting := by decide +kernel

/-- R118, R121, R122: a NORMAL end with min-off 100 (12.1, LINE1). -/
theorem test_pulse_end :
    let s := { State.reset with t := 200420 }.setLine 1 (lineOf (.active (pulseTo 200420 none)) .defer 100 0)
    ((after (.pulseEnd 1) s).line 1).state = .recovery 200520 ∧ kinds (after (.pulseEnd 1) s) = [.fireDone] := by
  decide +kernel

/-- R120: LINE_OVERTIME comes before FIRE_DONE. -/
theorem test_max_on_expiry :
    let s := { State.reset with t := 50 }.setLine 1 (lineOf (.active (pulseTo 90 (some 50))) .reject 0 40)
    let t := after (.maxOnExpiry 1) s
    (t.line 1).state = .idle ∧ kinds t = [.lineOvertime, .fireDone] := by decide +kernel

/-- R118: the guard does not act at the tick of a TIME pulse's end. -/
theorem test_max_on_at_end :
    let s := { State.reset with t := 50 }.setLine 1 (lineOf (.active (pulseTo 50 (some 50))) .reject 0 40)
    kinds (after (.maxOnExpiry 1) s) = [.fireDone] := by decide +kernel

/-- A request for the pending slot. -/
def request0 : FiringRequest :=
  { width := 20, unit := .time, axis := .e1, position := 100, origin := .item h0, late := false }

/-- R122: the pending request starts with the DEFERRED flag, from the positions of this event. -/
theorem test_recovery_end :
    let s := { State.reset with t := 520 }.setLine 1
      { lineOf (.recovery 520) .defer 100 0 with slot := some request0 }
    (after (.recoveryEnd 1) s).line 1 = lineOf
      (.active { start := 520, measure := .time, endPos := 540, guard := none, origin := .item h0, late := false
                 deferred := true }) .defer 100 0 := by decide +kernel

/-- A watching IDLE line with a sample at T 30, K 2. -/
def watched (mismatch : Nat) (action : MonitorAction) : Line :=
  { lineOf .idle .reject 0 0 with
    mon := { enable := true, settle := 20, interval := 500, threshold := .k2, action := action }
    mismatch := mismatch, sampleTime := some 30 }

/-- R134: a first disagreeing sample raises the count; the next sample is P ticks on. -/
theorem test_monitor_sample :
    let t := after (.monitorSample 4) ({ State.reset with t := 30, fb := 0x10 }.setLine 4 (watched 0 .shutdown))
    (t.line 4).mismatch = 1 ∧ (t.line 4).sampleTime = some 530 ∧ (t.line 4).lastSense = true := by
  decide +kernel

/-- R135, R136: the second shuts the line down, STUCK_ON. -/
theorem test_monitor_fault :
    let t := after (.monitorSample 4) ({ State.reset with t := 30, fb := 0x10 }.setLine 4 (watched 1 .shutdown))
    (t.line 4).state = .faulted ∧ (t.line 4).lastFault = .stuckOn ∧ (t.line 4).mismatch = 0 ∧
      kinds t = [.lineFault] := by decide +kernel

/-- A fence on E1 at a position, with a timeout. -/
def fence0 (p : Pos) (timeout : Word) : FenceFields :=
  { cond := .axisReached, axis := .one .e1, position := p, mask := 0, timeout := timeout }

/-- The parser FENCED at read 0, E1 at 100. -/
def fenced (f : FenceFields) (expiry : Option Pos) : State :=
  let s := ready (counting 100 State.reset) (.fence f)
  { s with parser := { s.parser with state := .fenced { fields := f, expiry := expiry } } }

/-- R183: a notice that finds the position reached passes the fence. -/
theorem test_fence_notice :
    let t := after .fenceNotice (fenced (fence0 100 0) none)
    t.parser.state = .running none ∧ t.ring.read = 6 ∧ kinds t = [] := by decide +kernel

/-- R185: the expiry tick ends a fence with FENCE_TIMEOUT. -/
theorem test_fence_timeout :
    let t := after .fenceTimeout { fenced (fence0 101 50) (some 50) with t := 50 }
    t.parser.state = .running none ∧ t.ring.read = 6 ∧ kinds t = [.fenceTimeout] := by decide +kernel

/-- R171: a header is kept while its packet is waited on. -/
theorem test_take_header :
    let s := { ready State.reset (.mark 7) with parser := { Parser.reset with state := .running none } }
    (after .parserTakeHeader s).parser.state = .running (some 513) := by decide +kernel

/-- R188, R206: a published word of 0 halts with UNKNOWN_KIND. -/
theorem test_take_zero_header :
    let s := { State.reset with
      ring := { Ring.reset with publish := 1, fill := 1 }, parser := { Parser.reset with state := .running none } }
    let t := after .parserTakeHeader s
    t.parser = { state := .halted, haltCode := .unknownKind, haltIndex := 0 } ∧ kinds t = [.cmdHalt] := by
  decide +kernel

/-- 12.3: the PAD's advance carries read from 1017 over the ring end to 0. -/
theorem test_pad_wraps :
    let s := ready State.reset (.pad 6)
    (after .pad { s with ring := { s.ring with read := 1017, publish := 13, fill := 13 } }).ring.read = 0 := by
  decide +kernel

/-- R181: the tag is the subject. -/
theorem test_mark :
    let t := after .mark (ready State.reset (.mark 7))
    t.queue.records.map (fun r => (r.report.kind, r.report.subject)) = [(.mark, 7)] ∧ t.ring.read = 2 := by
  decide +kernel

/-- R182: a fence whose position is behind passes at once, and one ahead holds. -/
theorem test_fence_passes :
    (after .fence (ready (counting 100 State.reset) (.fence (fence0 90 0)))).ring.read = 6 := by decide +kernel
theorem test_fence_holds :
    let s := ready (counting 100 { State.reset with t := 1000 }) (.fence (fence0 110 50))
    (after .fence s).parser.state = .fenced { fields := fence0 110 50, expiry := some 1050 } := by decide +kernel

/-- Settings that count with a divider. -/
def settings (d : Nat) : AxisSettings :=
  { mode := .counting, divider := d, policy := .bidirectional, invert := false }

/-- R14: an idle axis takes new settings and clears its residue. -/
theorem test_config_axis :
    let s := ready (counting 100 State.reset) (.configAxis .e1 (settings 4))
    let t := after .configAxis { s with enc1 := { s.enc1 with residue := 0, quadError := true } }
    t.enc1.cfg = settings 4 ∧ t.enc1.quadError = false ∧ t.enc1.pos = 100 := by decide +kernel

/-- R13, R14: an axis with an entry waiting is in use. -/
theorem test_config_axis_busy :
    kinds (after .configAxis (ready (flying [pulseEntry 0 150 .always 0] 1 none) (.configAxis .e1 (settings 4)))) =
      [.cmdRefused] := by decide +kernel

/-- R15. -/
theorem test_preset_axis :
    let s := ready (counting 100 State.reset) (.presetAxis .e1 4000000000)
    (after .presetAxis s).enc1.pos = 4000000000 := by decide +kernel

/-- R99: a WAITING detector refuses BUSY. -/
theorem test_config_detector_busy :
    let s := ready (State.reset.setDet 2 (waitingDet 10)) (.configDetector 2 (waitingDet 3).cfg)
    kinds (after .configDetector s) = [.cmdRefused] ∧ (after .configDetector s).det 2 = waitingDet 10 := by
  decide +kernel

/-- R99: a DISABLED detector takes its fields. -/
theorem test_config_detector :
    ((after .configDetector (ready State.reset (.configDetector 2 (waitingDet 3).cfg))).det 2).cfg.qual = 3 := by
  decide +kernel

/-- R100: a detector in LOCKOUT is not changed by ENABLE. -/
theorem test_enable :
    let s := ready (State.reset.setDet 1 { qualifiedDet 9 with state := .lockout }) (.detectorControl 3 .enable)
    ((after .enable s).det 0).state = .waiting ∧ ((after .enable s).det 1).state = .lockout ∧
      ((after .enable s).det 2).state = .disabled := by decide +kernel

/-- R101. -/
theorem test_disable :
    let s := ready (State.reset.setDet 1 (waitingDet 9)) (.detectorControl 2 .disable)
    ((after .disable s).det 1).state = .disabled := by decide +kernel

/-- R107: an IDLE line refuses BUSY. -/
theorem test_config_line_busy :
    let s := ready (State.reset.setLine 6 (lineOf .idle .reject 0 0))
      (.configLine 6 (lineOf .idle .defer 1 2).cfg Line.reset.mon)
    kinds (after .configLine s) = [.cmdRefused] ∧ ((after .configLine s).line 6).cfg.policy = .reject := by
  decide +kernel

/-- 12.3: LINE6 under DEFER, min-off 100, max-on 5,000. -/
theorem test_config_line :
    let c : LineConfig := { policy := .defer, minOff := 100, maxOn := 5000, reports := true }
    ((after .configLine (ready State.reset (.configLine 6 c Line.reset.mon))).line 6).cfg = c := by decide +kernel

/-- R109: mask 64 arms LINE6 alone (12.3). -/
theorem test_arm :
    let t := after .arm (ready State.reset (.lineControl 64 .arm))
    (t.line 6).state = .idle ∧ (t.line 7).state = .disabled := by decide +kernel

/-- R109: a FAULTED line refuses ARM. -/
theorem test_arm_faulted :
    let t := after .arm (ready (State.reset.setLine 6 (lineOf .faulted .reject 0 0)) (.lineControl 64 .arm))
    (t.line 6).state = .faulted ∧ kinds t = [.cmdRefused] := by decide +kernel

/-- R110: FIRE_DONE comes before FIRE_DROPPED. -/
theorem test_disarm :
    let l := { lineOf (.active (pulseTo 90 none)) .defer 0 0 with slot := some request0 }
    let t := after .disarm (ready (State.reset.setLine 6 l) (.lineControl 64 .disarm))
    (t.line 6).state = .disabled ∧ (t.line 6).slot = none ∧ kinds t = [.fireDone, .fireDropped] := by
  decide +kernel

/-- R111. -/
theorem test_clear_fault :
    let t := after .clearFault
      (ready (State.reset.setLine 6 (lineOf .faulted .reject 0 0)) (.lineControl 64 .clearFault))
    (t.line 6).state = .idle ∧ kinds t = [.lineFaultCleared] := by decide +kernel

/-- R112: with min-off 0 the deferred request starts in the same event. -/
theorem test_force_off :
    let l := { lineOf (.active (pulseTo 90 none)) .defer 0 0 with slot := some request0 }
    let t := after .forceOff (ready (State.reset.setLine 6 l) (.lineControl 64 .forceOff))
    t.output 6 = true ∧ (t.line 6).slot = none ∧ kinds t = [.fireDone] := by decide +kernel

/-- R78: the STAGING bank alone is written. -/
theorem test_write_recipe :
    let h : RecipeHeader := { axis := .e1, first := 20, count := 4, dflt := .accept }
    let t := after .writeRecipe (ready State.reset (.writeRecipe 2 h))
    t.bank1.headers[2] = h ∧ t.bank0.headers[2].count = 0 := by decide +kernel

/-- R79: the written steps are marked written. -/
theorem test_write_steps :
    let t := after .writeSteps (ready State.reset (.writeSteps 126 [step0, { step0 with line := 5 }]))
    t.bank1.steps[127] = { step := { step0 with line := 5 }, written := true } ∧
      t.bank1.steps[125].written = false := by decide +kernel

/-- R80: STAGING becomes a copy of ACTIVE. -/
theorem test_copy_bank :
    (after .copyBank (ready (withRecipe State.reset) .copyBank)).bank1 = (withRecipe State.reset).bank0 := by
  decide +kernel

/-- R81: an unwritten step refuses the switch. -/
theorem test_switch_refused :
    let s := ready State.reset .switchBank
    let h : RecipeHeader := { axis := .t, first := 5, count := 2, dflt := .accept }
    let b := { Bank.reset with headers := Bank.reset.headers.set 4 h }
    let t := after .switchBank { s with bank1 := b }
    t.active = .bank0 ∧ t.queue.records.map (fun r => (r.report.kind, r.report.aux1)) = [(.cmdRefused, 5)] := by
  decide +kernel

/-- 12.2: the roles are exchanged and BANK_SWITCHED names bank 1. -/
theorem test_switch :
    let t := after .switchBank (ready State.reset .switchBank)
    t.active = .bank1 ∧ t.queue.records.map (fun r => (r.report.kind, r.report.subject)) = [(.bankSwitched, 1)] := by
  decide +kernel

/-- R55: the capture lies the backdate behind the axis. -/
theorem test_inject_item :
    let t := after .injectItem (ready (withRecipe (counting 100 State.reset)) (.injectItem 0 30 44))
    t.e1List.map Entry.due = [120] ∧ (t.slot 0).item.map Item.tag = some (some 44) := by decide +kernel

/-- R58. -/
theorem test_verdict :
    let t := after .verdict (ready (flying [deadlineEntry 0 150] 1 none) (.verdict h0 .reject 11))
    (t.slot 0).item.map Item.decision = some (some (.reject, .host)) ∧ kinds t = [] := by decide +kernel

/-- R58: after a default the verdict is refused, and the item keeps what it holds. -/
theorem test_verdict_late :
    let t := after .verdict
      (ready (flying [deadlineEntry 0 150] 1 (some (.accept, .default))) (.verdict h0 .reject 11))
    (t.slot 0).item.map Item.decision = some (some (.accept, .default)) ∧ kinds t = [.cmdRefused] := by
  decide +kernel

/-- R68: the entries go, with no ITEM_DONE. -/
theorem test_cancel_item :
    let t := after .cancelItem
      (ready (flying [pulseEntry 0 150 .always 0, deadlineEntry 1 160] 2 none) (.cancelItem h0))
    t.e1List = [] ∧ t.freeCount = 256 ∧ (t.slot 0) = { gen := 1, item := none } ∧ kinds t = [.itemCancelled] := by
  decide +kernel

/-- R38, R39: a distance of 16,777,216 ahead is out of range. -/
theorem test_schedule_fire_range :
    let s := ready (flying [] 0 none) (.scheduleFire { fire0 with due := 100 + 16777216 })
    kinds (after .scheduleFire s) = [.cmdRefused] := by decide +kernel

/-- R38: an entry already reached is released in the packet's own pass. -/
theorem test_schedule_fire_now :
    let t := after .scheduleFire (ready (flying [] 0 none) (.scheduleFire { fire0 with due := 100 }))
    t.output 3 = true ∧ t.e1List = [] ∧ t.freeCount = 256 := by decide +kernel

/-- R40: host entries with the tag go, and item entries stay. -/
theorem test_cancel_tag :
    let t := after .cancelTag
      (ready (flying [hostEntry 0 150, pulseEntry 1 160 .always 0] 1 none) (.cancelTag 7))
    t.e1List = [pulseEntry 1 160 .always 0] ∧ t.freeCount = 255 := by decide +kernel

/-- R177, R178, R179. -/
theorem test_start_parser : (after .startParser State.reset).parser.state = .running none := by decide +kernel
theorem test_stop_parser_fenced :
    (after .stopParser (fenced (fence0 110 0) none)).parser.state = .stopped ∧
      (after .stopParser (fenced (fence0 110 0) none)).ring.read = 0 := by decide +kernel
theorem test_ring_reset :
    (after .ringReset (ready State.reset (.mark 7))).ring.free = 1023 := by decide +kernel

/-- R199, R201. -/
theorem test_quiesce_empty : (after .quiesce State.reset).engine = .quiesced := by decide +kernel
theorem test_quiesce_busy :
    (after .quiesce (flying [pulseEntry 0 150 .always 0] 1 none)).engine = .quiescing := by decide +kernel
theorem test_resume : (after .resume { State.reset with engine := .quiesced }).engine = .run := by decide +kernel

/-- R73, R160: slots keep their generations, and the sequence starts at 0 again. -/
theorem test_engine_reset :
    let t := after .engineReset { flying [pulseEntry 0 150 .always 0] 1 none with queue := queueOf 3 .mark }
    t.slot 0 = { gen := 1, item := none } ∧ t.freeCount = 256 ∧ t.queue = { records := [], seq := 0 } ∧
      t.enc1.pos = 100 := by decide +kernel

/-- R164: with no free space the word is discarded and RING_OVERRUN is set. -/
theorem test_ring_data :
    (after (.ringData 77) State.reset).ringWord 0 = 77 := by decide +kernel
theorem test_ring_overrun :
    let s := { State.reset with ring := { Ring.reset with fill := 1023 } }
    (after (.ringData 77) s).irq.overrun = true ∧ (after (.ringData 77) s).ring.fill = 1023 := by decide +kernel
theorem test_ring_publish :
    (after (.ringPublish 0) { State.reset with ring := { Ring.reset with fill := 9 } }).ring.publish = 9 := by
  decide +kernel
theorem test_ring_withdraw :
    (after (.ringWithdraw 0) { State.reset with ring := { Ring.reset with fill := 9 } }).ring.fill = 0 := by
  decide +kernel

/-- 12.3: with 13 words published after index 0, 14 is ignored and 13 is taken. -/
theorem test_resync_ignored :
    let s := { State.reset with
      ring := { Ring.reset with publish := 13, fill := 13 }, parser := { Parser.reset with state := .halted } }
    (after (.resync 14) s).ring.read = 0 ∧ (after (.resync 14) s).parser.state = .halted := by decide +kernel
theorem test_resync :
    let s := { State.reset with
      ring := { Ring.reset with publish := 13, fill := 13 }, parser := { Parser.reset with state := .halted } }
    (after (.resync 13) s).ring.read = 13 ∧ (after (.resync 13) s).parser.state = .stopped := by decide +kernel

/-- R153. -/
theorem test_report_pop :
    (after (.reportPop 0) { State.reset with queue := queueOf 3 .mark }).queue.records.map Record.seq = [1, 2] := by
  decide +kernel

/-- R157: bit 6 alone clears RING_OVERRUN. -/
theorem test_irq_status :
    let s := { State.reset with irq := { Interrupt.reset with overrun := true } }
    (after (.irqStatusWrite 0x3F) s).irq.overrun = true ∧ (after (.irqStatusWrite 0x40) s).irq.overrun = false := by
  decide +kernel

/-- R158: RING_SPACE is present after reset, so enabling it drives IRQ_N low. -/
theorem test_irq_enable : (after (.irqEnableWrite 8) State.reset).irqN = false := by decide +kernel

/-- R159. -/
theorem test_watermark :
    (after (.reportWatermarkWrite 64) State.reset).irq.watermark = 64 ∧
      (after (.reportWatermarkWrite 65) State.reset).irq.watermark = 48 := by decide +kernel
theorem test_space_level :
    (after (.ringSpaceLevelWrite 1023) State.reset).irq.spaceLevel = 1023 ∧
      (after (.ringSpaceLevelWrite 1024) State.reset).irq.spaceLevel = 512 := by decide +kernel

/-- R191, R194. -/
theorem test_pos_select :
    (after (.posSelectWrite 2) State.reset).bus.posSelect = .e2 ∧
      (after (.posSelectWrite 3) State.reset).bus.posSelect = .t := by decide +kernel
theorem test_line_select :
    (after (.lineSelectWrite 15) State.reset).bus.lineSelect = 15 ∧
      (after (.lineSelectWrite 16) State.reset).bus.lineSelect = 0 := by decide +kernel
theorem test_pos_low_read :
    let t := after .posLowRead { State.reset with t := 0x00030D40 }
    t.bus.data = 0x0D40 ∧ t.readRegister 0x18 = 3 := by decide +kernel

/-- R197: a CMD value of 7 is no command. -/
theorem test_write_ignored : after (.registerWriteIgnored 0 7) State.reset = State.reset := by decide +kernel

/-! ### Witnesses: states and operands that meet the hypotheses of the statements -/

theorem witness_StepRunsTheFrontCommand : State.reset.pending = [] := rfl

/-- Each packet at the last index where it fits. -/
theorem witness_PacketsDecodeFromTheirWords :
    (Packet.copyBank.wf = true ∧ (1023#10).toNat + 1 + Packet.copyBank.body.length ≤ 1024) ∧
    ((Packet.verdict { gen := 255, slot := 63 } .reject 65535).wf = true ∧
      (1020#10).toNat + 1 + (Packet.verdict { gen := 255, slot := 63 } .reject 65535).body.length ≤ 1024) ∧
    ((Packet.writeSteps 118 (List.replicate 10 step0)).wf = true ∧
      (962#10).toNat + 1 + (Packet.writeSteps 118 (List.replicate 10 step0)).body.length ≤ 1024) ∧
    (Packet.pad 255).wf = true ∧ (768#10).toNat + 1 + (Packet.pad 255).body.length ≤ 1024 := by decide +kernel

theorem witness_AcceptedBodiesAreThoseOfPackets :
    decodeBody .mark [65535] = some (.mark 65535) ∧ decodeBody .pad [3] = some (.pad 1) := by decide +kernel

/-- A state in flight that meets every invariant of the step, with a command that waits. -/
def live : State :=
  { flying [pulseEntry 0 150 .always 1, deadlineEntry 1 160] 2 none with pending := [.scheduleReleasePass .e1] }

theorem live_steps : ∃ t, step live = .next t := ⟨_, rfl⟩

theorem witness_StepKeepsAxesAndDetectorsInBounds :
    live.AxesSound ∧ live.DetectorsSound ∧ ∃ t, step live = .next t := by
  refine ⟨by decide +kernel, fun n => ?_, live_steps⟩
  have : ∀ n : Fin 8, (live.det n).state = .disabled := by decide +kernel
  simp only [Detector.Sound, this]

theorem witness_StepKeepsTheEntryPool : live.PoolSound ∧ ∃ t, step live = .next t :=
  ⟨by decide +kernel, live_steps⟩

theorem witness_StepKeepsTheListsOrdered :
    live.ListsOrdered ∧ live.EntriesPlaced ∧ ∃ t, step live = .next t :=
  ⟨by decide +kernel, by decide +kernel, live_steps⟩

theorem live_findItem : (live.findItem h0).isSome = true := by decide +kernel

theorem witness_StepKeepsPendingCounts :
    live.ItemsSound ∧ live.BanksSound ∧ ∃ t, step live = .next t := by
  refine ⟨⟨by decide +kernel, fun e he => ?_⟩, by decide +kernel, live_steps⟩
  have hl : live.allEntries = [pulseEntry 0 150 .always 1, deadlineEntry 1 160] := rfl
  rw [hl] at he
  simp only [List.mem_cons, List.not_mem_nil, or_false] at he
  rcases he with rfl | rfl <;> exact live_findItem

theorem witness_StepKeepsTheActiveBankComplete : live.BanksSound ∧ ∃ t, step live = .next t :=
  ⟨by decide +kernel, live_steps⟩

theorem witness_StepKeepsLinesSound : live.LinesSound ∧ ∃ t, step live = .next t :=
  ⟨by decide +kernel, live_steps⟩

/-- A full queue with both levels at their ends; every command steps it. -/
theorem witness_StepKeepsTheReportQueueBounds :
    (queueOf 60 .mark).Sound ∧ (queueOf 64 .cmdHalt).Sound ∧
    ({ Interrupt.reset with watermark := 64, spaceLevel := 1023 } : Interrupt).Sound ∧
    ∃ t, step { live with queue := queueOf 64 .cmdHalt } = .next t :=
  ⟨by decide +kernel, by decide +kernel, by decide +kernel, ⟨_, rfl⟩⟩

/-- A part whose parser is FENCED at the start of a published FENCE, and one that keeps a header. -/
theorem witness_StepKeepsTheRingSound :
    (fenced (fence0 110 0) none).RingSound ∧ (ready State.reset (.mark 7)).RingSound ∧
    ({ State.reset with parser := { state := .halted, haltCode := .badField, haltIndex := 0 } } : State).RingSound ∧
    ∃ t, step { fenced (fence0 110 0) none with pending := [.fenceNotice] } = .next t := by
  have h1 : 1 + fenceLength ≤ (fenced (fence0 110 0) none).ring.published := by decide +kernel
  have h2 : 0 < (ready State.reset (.mark 7)).ring.published ∧
      (Packet.mark 7).header = (ready State.reset (.mark 7)).ringWord 0 ∧
      headerPasses (Packet.mark 7).header 0 = true := by decide +kernel
  exact ⟨⟨by decide +kernel, by decide +kernel, h1, by decide +kernel, trivial⟩,
    ⟨by decide +kernel, by decide +kernel, trivial, by decide +kernel, h2⟩,
    ⟨by decide +kernel, by decide +kernel, trivial, by decide +kernel, trivial⟩, ⟨_, rfl⟩⟩

theorem witness_StepKeepsQuiescingNonEmpty :
    ({ live with engine := .quiescing } : State).EngineSound ∧
    ∃ t, step { live with engine := .quiescing } = .next t :=
  ⟨by decide +kernel, ⟨_, rfl⟩⟩

theorem witness_PublishedWordsStay :
    let s := ready State.reset (.mark 7)
    s.ring.PathSound ∧ (∃ t, exec .mark s = .next t) ∧ 1 < s.ring.published ∧ s.ring.published = 2 :=
  ⟨by decide +kernel, ⟨_, rfl⟩, by decide +kernel, by decide +kernel⟩

theorem witness_SettledVerdictsDoNotChange :
    let s := ready (flying [deadlineEntry 0 150] 1 (some (.accept, .default))) (.verdict h0 .reject 11)
    let t := after .verdict s
    exec .verdict s = .next t ∧ (s.slot 0).item = some (item0 1 (some (.accept, .default))) ∧
      (t.slot 0).item = some (item0 1 (some (.accept, .default))) ∧ (t.slot 0).gen = (s.slot 0).gen :=
  ⟨rfl, rfl, by decide +kernel, by decide +kernel⟩

/-- A pass and SWITCH_BANK are commands of the kind that the statements name. -/
theorem witness_OnlyTheseCommandsMoveAnAxis :
    (∃ t, exec (.scheduleReleasePass .e1) live = .next t) ∧
    (∀ p q di fb, Instr.scheduleReleasePass .e1 ≠ .hardwareReset p q di fb) ∧
    (∀ fb, Instr.scheduleReleasePass .e1 ≠ .tick fb) ∧
    ∀ ph, Instr.scheduleReleasePass .e1 ≠ .quadTransition .e1 ph :=
  ⟨⟨_, rfl⟩, by simp, by simp, by simp⟩

theorem witness_TheActiveBankIsNotWritten :
    (∃ t, exec .switchBank (ready State.reset .switchBank) = .next t) ∧ Instr.copyBank ≠ .switchBank :=
  ⟨⟨_, rfl⟩, by decide⟩

theorem witness_LinesKeepConfigurationAndFault :
    let s := ready (State.reset.setLine 6 (lineOf .faulted .reject 0 0)) (.lineControl 64 .arm)
    (∃ t, exec .arm s = .next t) ∧ (s.line 6).state = .faulted ∧ Instr.arm ≠ .clearFault ∧
      Instr.arm ≠ .disarm ∧ Instr.arm ≠ .configLine :=
  ⟨⟨_, rfl⟩, by decide +kernel, by decide, by decide, by decide⟩

theorem witness_NothingIsAdmittedOutsideRun :
    let s := ready { live with engine := .quiescing } (.injectItem 0 0 0)
    (∃ t, exec .injectItem s = .next t) ∧ s.engine ≠ .run ∧ s.PoolSound ∧ (s.slot 63).item = none :=
  ⟨⟨_, rfl⟩, by decide, by decide +kernel, by decide +kernel⟩

theorem witness_RecordsStayUntilPopped :
    (∃ t, exec .mark { ready State.reset (.mark 7) with queue := queueOf 60 .mark } = .next t) ∧
      Instr.mark ≠ .engineReset ∧ (∀ w, Instr.mark ≠ .reportPop w) ∧ Instr.mark.wf = true :=
  ⟨⟨_, rfl⟩, by decide, by simp, rfl⟩

theorem witness_ParserChecksHeaders :
    let s := { ready State.reset (.mark 7) with parser := { Parser.reset with state := .running none } }
    s.parser.state = .running none ∧ 0 < s.ring.published ∧ s.ringWord s.ring.read = 513 := by decide +kernel

/-- LINE_CONTROL with mask 64 and action 5, which is none. -/
def badAction : State :=
  { State.reset with
    ring := { words := memoryOf [0x0902, 64, 5], read := 0, publish := 3, fill := 3 }
    parser := { Parser.reset with state := .running (some 0x0902) } }

theorem badAction_body : badAction.bodyWords ((0x0902#16).toNat % 256) = [64, 5] := by decide +kernel

theorem witness_BadFieldHalts :
    badAction.parser.state = .running (some 0x0902) ∧ (0x0902#16).toNat / 256 = PacketKind.lineControl.code ∧
    PacketKind.lineControl ≠ .pad ∧ 1 + (0x0902#16).toNat % 256 ≤ badAction.ring.published ∧
    (∀ p : Packet, p.wf = true → p.kind = .lineControl →
      p.body ≠ badAction.bodyWords ((0x0902#16).toNat % 256)) ∧ Instr.arm ∈ PacketKind.lineControl.rows := by
  refine ⟨rfl, by decide, by decide, by decide +kernel, fun p _ hk => ?_, by decide⟩
  rw [badAction_body]
  cases p with
  | lineControl mask a => cases a <;> simp [Packet.body, LineAction.code]
  | _ => simp [Packet.kind] at hk

theorem witness_TakenPacketsAreConsumed :
    (ready State.reset (.mark 7)).PacketReady (.mark 7) ∧ (Packet.mark 7).kind ≠ .fence ∧
    (ready State.reset .copyBank).PacketReady .copyBank ∧
    (ready State.reset (.writeSteps 118 (List.replicate 10 step0))).PacketReady
      (.writeSteps 118 (List.replicate 10 step0)) ∧
    (ready State.reset (.mark 7)).ring.PathSound := by decide +kernel

theorem witness_PadAndMarkAreTaken :
    let s := ready State.reset (.pad 255)
    s.parser.state = .running (some (Packet.pad 255).header) ∧ 1 + 255 ≤ s.ring.published ∧
    (ready State.reset (.pad 0)).parser.state = .running (some (Packet.pad 0).header) ∧
    1 + 0 ≤ (ready State.reset (.pad 0)).ring.published ∧
    (ready State.reset (.mark 7)).PacketReady (.mark 7) := by decide +kernel

/-- Positions at the two ends of "reached": at the axis, and half the circle behind. -/
theorem witness_FencePassesOrHolds :
    let s := counting 100 State.reset
    ((ready s (.fence (fence0 100 0))).PacketReady (.fence (fence0 100 0)) ∧
      (s.pos .e1 - (fence0 100 0).position).toNat < 2147483648) ∧
    ((ready s (.fence (fence0 (100 - 2147483648) 1))).PacketReady (.fence (fence0 (100 - 2147483648) 1)) ∧
      ¬ (s.pos .e1 - (fence0 (100 - 2147483648) 1).position).toNat < 2147483648) ∧
    (fenced (fence0 110 0) none).parser.state = .fenced { fields := fence0 110 0, expiry := none } := by
  decide +kernel

/-- A fence on T reached by the advance to its expiry tick. -/
def fenceOnT : FenceFields := { cond := .axisReached, axis := .one .t, position := 50, mask := 0, timeout := 50 }

theorem witness_FenceNoticeAndTimeout :
    (fenced (fence0 100 0) none).parser.state = .fenced { fields := fence0 100 0, expiry := none } ∧
    Claims.FenceHolds (fenced (fence0 100 0) none) (fence0 100 0) ∧
    (fenced (fence0 101 0) none).parser.state = .fenced { fields := fence0 101 0, expiry := none } ∧
    ¬ Claims.FenceHolds (fenced (fence0 101 0) none) (fence0 101 0) ∧
    (none : Option Pos) ≠ some (fenced (fence0 101 0) none).t ∧
    (let s := { fenced fenceOnT (some 50) with t := 50 }
     s.parser.state = .fenced { fields := fenceOnT, expiry := some 50 } ∧ reached s.t fenceOnT.position = true) ∧
    (let s := { fenced { fenceOnT with position := 51 } (some 50) with t := 50 }
     s.parser.state = .fenced { fields := { fenceOnT with position := 51 }, expiry := some 50 } ∧
       reached s.t (51 : Pos) = false) ∧
    (fence0 101 50).axis ≠ .one .t := by
  have h1 : Claims.FenceHolds (fenced (fence0 100 0) none) (fence0 100 0) :=
    show ((100 : Pos) - 100).toNat < 2147483648 by decide
  have h2 : ¬ Claims.FenceHolds (fenced (fence0 101 0) none) (fence0 101 0) :=
    show ¬ ((100 : Pos) - 101).toNat < 2147483648 by decide
  exact ⟨rfl, h1, rfl, h2, by decide, by decide +kernel, by decide +kernel, by decide⟩

theorem witness_RingDataPublishAndWithdraw :
    ({ Ring.reset with fill := 1023 } : Ring).free = 0 ∧
    (({ Ring.reset with fill := 1022 } : Ring).PathSound ∧ 1 ≤ ({ Ring.reset with fill := 1022 } : Ring).free) ∧
    Ring.reset.fill = Ring.reset.publish := by decide +kernel

/-- The boundary of the path to publish: 13 is on it, 14 is off it. -/
theorem witness_ResyncMovesReadOrIsIgnored :
    let r : Ring := { Ring.reset with read := 1020, publish := 9, fill := 9 }
    (Parser.reset.state = .stopped ∧ (9#16).toNat ≤ 1023 ∧
      ((9#16).toNat + 1024 - r.read.toNat) % 1024 ≤ r.published) ∧
    r.published < ((10#16).toNat + 1024 - r.read.toNat) % 1024 ∧ 1023 < (1024#16).toNat ∧ r.PathSound ∧
    (ParserState.running none ≠ .stopped ∧ ParserState.running none ≠ .halted) := by decide +kernel

theorem witness_ParserCommands :
    State.reset.parser.state = .stopped ∧
    ({ Parser.reset with state := .halted } : Parser).state = .halted ∧
    ((fenced (fence0 110 0) none).parser.state ≠ .stopped ∧
      (fenced (fence0 110 0) none).parser.state ≠ .halted) := by decide +kernel

/-- Both classes at the two sides of their limits. -/
theorem witness_QueueTakesOffersAndPops :
    ((someReport .mark).kind.cls = .routine ∧ (queueOf 59 .mark).records.length < 60) ∧
    ((someReport .mark).kind.cls = .routine ∧ 60 ≤ (queueOf 60 .mark).records.length) ∧
    ((someReport .cmdHalt).kind.cls = .fault ∧ (queueOf 63 .cmdHalt).records.length < 64) ∧
    ((someReport .cmdHalt).kind.cls = .fault ∧ 64 ≤ (queueOf 64 .cmdHalt).records.length) ∧
    State.reset.queue.records = [] ∧
    (queueOf 1 .mark).records = [{ report := someReport .mark, seq := 0, lost := 0 }] ∧ (2 : Nat) < 4 := by
  decide +kernel

/-- 11.4, example: the detail of a VERDICT refused LATE reads 3,843. -/
theorem test_refusal_detail :
    (Claims.cmdRefusedRecord .verdict .late 0 2051 2 41).detail = 3843 := by decide

theorem witness_InterruptRegisters :
    (0x40#16).getLsbD 6 = true ∧ (0xFFBF#16).getLsbD 6 = false := by decide

theorem witness_RegistersTakeTheirRanges :
    (1 ≤ (1#16).toNat ∧ (64#16).toNat ≤ 64) ∧ (0#16).toNat = 0 ∧ 65 ≤ (65#16).toNat ∧
    (1023#16).toNat ≤ 1023 ∧ 1024 ≤ (1024#16).toNat ∧
    ({ Interrupt.reset with watermark := 1 } : Interrupt).watermark = 1 ∧
    ({ Interrupt.reset with spaceLevel := 0 } : Interrupt).spaceLevel = 0 ∧
    (({ Interrupt.reset with spaceLevel := 1023 } : Interrupt).spaceLevel = 1023 ∧ Ring.reset.PathSound) ∧
    (2#16).toNat = Axis.e2.code ∧ 3 ≤ (3#16).toNat ∧ (15#16).toNat = (15 : Fin 16).val ∧ 16 ≤ (16#16).toNat := by
  decide

/-- A part in flight meets the premises of the reads, with E1 selected; and a queue at its capacity is sound. -/
theorem witness_RegistersTakeTheirRanges_reads :
    live.LinesSound ∧ live.PoolSound ∧ live.AxesSound ∧ (queueOf 64 .cmdHalt).Sound ∧
    State.reset.queue.records = [] ∧
    ({ live with bus := { live.bus with posSelect := .e1 } } : State).bus.posSelect = Enc.e1.axis :=
  ⟨by decide +kernel, by decide +kernel, by decide +kernel, by decide +kernel, rfl, rfl⟩

/-- One ignored write of each sort. -/
theorem witness_IgnoredWritesChangeNothing :
    (Instr.registerWriteIgnored 0x01 0).wf = true ∧ (Instr.registerWriteIgnored 0x1F 65535).wf = true ∧
    (Instr.registerWriteIgnored 0x00 7).wf = true ∧ (Instr.registerWriteIgnored 0x05 1024).wf = true ∧
    (Instr.registerWriteIgnored 0x08 1024).wf = true ∧ (Instr.registerWriteIgnored 0x09 0x3F).wf = true ∧
    (Instr.registerWriteIgnored 0x0C 65).wf = true ∧ (Instr.registerWriteIgnored 0x16 3).wf = true ∧
    (Instr.registerWriteIgnored 0x1B 16).wf = true := by decide +kernel

theorem witness_QuiesceAndResume :
    (State.reset.engine = .run ∧ Claims.PartEmpty State.reset) ∧
    (live.engine = .run ∧ ¬ Claims.PartEmpty live) ∧ EngineState.quiesced ≠ .run := by
  refine ⟨⟨rfl, by decide +kernel, rfl, rfl, rfl⟩, ⟨rfl, fun h => ?_⟩, by decide⟩
  have : live.e1List = [] := h.2.2.1
  exact absurd this (by decide +kernel)

/-- A part that owes nothing, with a detector that counts and an entry that waits for `due`. -/
def quietAt (due : Pos) : State :=
  (flying [pulseEntry 0 due .always 0] 1 none).setDet 2
    { waitingDet 10 with state := .qualifying { t := 0, e1 := 0, e2 := 0 }, count := 9 }

theorem quietAt_dets : ∀ n : Fin 8, ((quietAt 101).det n).state = .disabled ∨ n = 2 := by decide +kernel

theorem quietAt_lines : ∀ n : Fin 16, (((quietAt 101).line n).state = .disabled ∨
    ((quietAt 101).line n).state = .idle) ∧ ((quietAt 101).line n).watching = false := by decide +kernel

theorem quietAt_quiet (due : Pos) (h : reached 100 due = false) : (quietAt due).Quiet := by
  refine ⟨?_, ?_, ?_, trivial⟩
  · intro ax; cases ax
    · exact trivial
    · exact h
    · exact trivial
  · intro n
    rcases quietAt_dets n with h | rfl
    · simp only [State.DetectorQuiet, show (quietAt due).det n = (quietAt 101).det n from rfl, h]
    · show (9 : Nat) ≠ 10; decide
  · intro n
    have hn := quietAt_lines n
    rw [State.LineQuiet, show (quietAt due).line n = (quietAt 101).line n from rfl]
    refine ⟨?_, fun hw => absurd (hn.2.symm.trans hw) (by decide)⟩
    rcases hn.1 with h | h <;> simp only [h]

theorem witness_TickAdvancesTime : (quietAt 101).Quiet ∧ (quietAt 101).DetectorsSound := by
  refine ⟨quietAt_quiet 101 (by decide), fun n => ?_⟩
  rcases quietAt_dets n with h | rfl
  · simp only [Detector.Sound, h]
  · show 1 ≤ (10#8).toNat ∧ 9 ≤ (10#8).toNat; decide

/-- A TICK that finds a release owed takes it first, and then T advances (log 2). -/
theorem witness_TickAdvancesTime_owed :
    let s := flying [deadlineEntry 0 100] 1 none
    reached (s.pos .e1) 100 = true ∧ (after (.tick 5) s).t = 1 ∧ (after (.tick 5) s).e1List = [] ∧
      kinds (after (.tick 5) s) = [.verdictDefaulted, .itemDone] := by decide +kernel

/-- E1 at 100 goes to 101 and to 99, with an entry that stands next ahead and with one at half the circle. -/
theorem witness_PositionChangesOnAQuietPart :
    (quietAt 101).Quiet ∧ (quietAt (100 + 2147483648)).Quiet ∧
    (Claims.axisAfter (quietAt 101).enc1 { a := true, b := false }).pos = (quietAt 101).enc1.pos + 1 ∧
    (Claims.axisAfter (quietAt 101).enc1 { a := false, b := true }).pos = (quietAt 101).enc1.pos - 1 :=
  ⟨quietAt_quiet _ (by decide), quietAt_quiet _ (by decide), by decide +kernel, by decide +kernel⟩

/-- R23, R65, R200: the last entry of a QUIESCING part expires, its item retires, and QUIESCED follows ITEM_DONE. -/
theorem witness_PositionChanges_expiry :
    let s := { quietAt (100 + 2147483648) with engine := .quiescing }
    let t := after (.quadTransition .e1 { a := false, b := true }) s
    s.Quiet ∧ s.engine = .quiescing ∧
    (s.list .e1).filter (fun e => decide (e.due = s.enc1.pos + 2147483648)) ≠ [] ∧ t.isEmpty = true ∧
    kinds t = [.itemDone, .quiesced] ∧ (t.slot 0).item = none ∧ t.freeCount = 256 :=
  ⟨quietAt_quiet (100 + 2147483648) (by decide), rfl, by decide +kernel, by decide +kernel, by decide +kernel,
    by decide +kernel, by decide +kernel⟩

/-- With D 2 a first forward count makes no unit; and an error moves nothing. -/
theorem witness_EncoderTransitions :
    let a : EncAxis := { EncAxis.reset { a := false, b := false } with cfg := settings 2 }
    Claims.movesPosition a { a := true, b := false } = false ∧
    Claims.movesPosition a { a := true, b := true } = false := by decide +kernel

/-- Nothing waits on E1. -/
theorem not_inUse_ready (p : Packet) (q : Pos) : ¬ Claims.InUse (ready (counting q State.reset) p) .e1 := by
  have hl : ∀ n : Fin 16, (State.reset.line n).state = .disabled := by decide +kernel
  have hd : ∀ n : Fin 8, (State.reset.det n).state = .disabled := by decide +kernel
  rintro (h | ⟨n, u, h, -⟩ | ⟨n, h, -⟩ | ⟨r, h, -⟩)
  · exact h rfl
  · rw [show (ready (counting q State.reset) p).line n = State.reset.line n from rfl, hl n] at h; cases h
  · rw [show (ready (counting q State.reset) p).det n = State.reset.det n from rfl, hd n] at h; cases h
  · cases h

theorem witness_ConfigAxisFourWays :
    (let s := ready (counting 100 State.reset) (.configAxis .e1 (settings 1))
     s.PacketReady (.configAxis .e1 (settings 1)) ∧ settings 1 = (s.encAxis .e1).cfg) ∧
    (let s := ready (counting 100 State.reset) (.configAxis .e1 (settings 16))
     s.PacketReady (.configAxis .e1 (settings 16)) ∧ settings 16 ≠ (s.encAxis .e1).cfg ∧
       ¬ Claims.InUse s .e1) ∧
    (let s := ready { live with enc1 := EncAxis.reset { a := false, b := false } } (.configAxis .e1 (settings 1))
     s.PacketReady (.configAxis .e1 (settings 1)) ∧ settings 1 ≠ (s.encAxis .e1).cfg ∧
       Claims.OnlyEnables (s.encAxis .e1).cfg (settings 1) ∧ Claims.InUse s .e1) ∧
    (let s := ready live (.configAxis .e1 (settings 16))
     s.PacketReady (.configAxis .e1 (settings 16)) ∧ settings 16 ≠ (s.encAxis .e1).cfg ∧
       ¬ Claims.OnlyEnables (s.encAxis .e1).cfg (settings 16) ∧ Claims.InUse s .e1) := by
  refine ⟨by decide +kernel, ⟨by decide +kernel, by decide +kernel, not_inUse_ready _ _⟩,
    ⟨by decide +kernel, by decide +kernel, ?_, .inl (by decide +kernel)⟩,
    ⟨by decide +kernel, by decide +kernel, ?_, .inl (by decide +kernel)⟩⟩
  · exact ⟨rfl, rfl, rfl, rfl, rfl⟩
  · exact fun h => absurd h.1 (by decide +kernel)

theorem witness_PresetAxisSetsThePosition :
    ((ready (counting 100 State.reset) (.presetAxis .e1 0)).PacketReady (.presetAxis .e1 0) ∧
      ¬ Claims.InUse (ready (counting 100 State.reset) (.presetAxis .e1 0)) .e1) ∧
    ((ready live (.presetAxis .e1 0)).PacketReady (.presetAxis .e1 0) ∧
      Claims.InUse (ready live (.presetAxis .e1 0)) .e1) :=
  ⟨⟨by decide +kernel, not_inUse_ready _ _⟩, by decide +kernel, .inl (by decide +kernel)⟩

theorem witness_PassReleasesEverythingDue :
    (live.list .e1).Pairwise fun a b => lead (live.pos .e1) a.due ≤ lead (live.pos .e1) b.due := by
  decide +kernel

/-- An item's entry with no repeats, its last entry, one with repeats, and a host entry, each at its due position. -/
theorem witness_ReleaseOfOneEntry :
    (let s := flying [pulseEntry 0 100 .ifAccept 0, deadlineEntry 1 101] 2 none
     s.list .e1 = [pulseEntry 0 100 .ifAccept 0, deadlineEntry 1 101] ∧ reached (s.pos .e1) 100 = true ∧
       (s.setList .e1 [deadlineEntry 1 101]).ListQuiet .e1 ∧ s.findItem h0 = some (item0 2 none) ∧
       s.engine ≠ .quiescing ∧ 2 ≤ (item0 2 none).pending) ∧
    (let s := flying [deadlineEntry 0 100] 1 none
     s.list .e1 = [deadlineEntry 0 100] ∧ reached (s.pos .e1) 100 = true ∧
       (s.setList .e1 []).ListQuiet .e1 ∧ s.findItem h0 = some (item0 1 none) ∧ s.engine ≠ .quiescing ∧
       (deadlineEntry 0 100).repeats = 0 ∧ (item0 1 none).pending = 1) ∧
    (let e := pulseEntry 0 100 .ifReject 255
     let s := flying [e] 1 (some (.reject, .host))
     s.list .e1 = [e] ∧ reached (s.pos .e1) e.due = true ∧ (s.setList .e1 []).ListQuiet .e1 ∧
       s.engine ≠ .quiescing ∧ s.findItem h0 = some (item0 1 (some (.reject, .host))) ∧ e.repeats ≠ 0 ∧
       reached (s.pos .e1) (e.due + e.spacing.setWidth 32) = false) ∧
    (let s := flying [hostEntry 0 100] 0 none
     s.list .e1 = [hostEntry 0 100] ∧ reached (s.pos .e1) 100 = true ∧
       (s.setList .e1 []).ListQuiet .e1 ∧ s.engine ≠ .quiescing ∧ (hostEntry 0 100).owner = .host 7 ∧
       (hostEntry 0 100).action = .pulse 3 40 .time .always ∧ (hostEntry 0 100).repeats = 0) := by
  have h : reached (100 : Pos) 101 = false := by decide
  refine ⟨⟨rfl, by decide +kernel, h, by decide +kernel, by decide, by decide⟩,
    ⟨rfl, by decide +kernel, trivial, by decide +kernel, by decide, rfl, rfl⟩,
    ⟨rfl, by decide +kernel, trivial, by decide, by decide +kernel, by decide, by decide +kernel⟩,
    rfl, by decide +kernel, trivial, by decide, rfl, rfl, rfl⟩

/-- The last entry of a QUIESCING part; a repeat whose next grid point is reached by the same advance; and a host
entry with repeats, with another entry behind it that is due as well. -/
theorem witness_ReleaseOfOneEntry_goes_on :
    (let s := { flying [deadlineEntry 0 100] 1 none with engine := .quiescing }
     s.list .e1 = [deadlineEntry 0 100] ∧ reached (s.pos .e1) 100 = true ∧ s.engine = .quiescing ∧
       s.findItem h0 = some (item0 1 none) ∧
       kinds (after (.scheduleReleasePass .e1) s) = [.verdictDefaulted, .itemDone, .quiesced]) ∧
    (let e := pulseEntry 0 85 .always 2
     let s := flying [e] 1 none
     s.list .e1 = [e] ∧ reached (s.pos .e1) e.due = true ∧ e.repeats ≠ 0 ∧ s.findItem h0 = some (item0 1 none) ∧
       reached (s.pos .e1) (e.due + e.spacing.setWidth 32) = true ∧
       (after (.scheduleReleasePass .e1) s).e1List = [pulseEntry 0 105 .always 0]) ∧
    (let e := { hostEntry 0 99 with repeats := 255, spacing := 65535 }
     let s := flying [e, hostEntry 1 100] 0 none
     s.list .e1 = [e, hostEntry 1 100] ∧ reached (s.pos .e1) e.due = true ∧ e.owner = .host 7 ∧
       e.action = .pulse 3 40 .time .always ∧ e.repeats ≠ 0 ∧
       (after (.scheduleReleasePass .e1) s).e1List = [{ e with due := 65634, repeats := 254 }]) := by
  refine ⟨⟨rfl, ?_, rfl, ?_, ?_⟩, ⟨rfl, ?_, ?_, ?_, ?_, ?_⟩, rfl, ?_, rfl, rfl, ?_, ?_⟩ <;> decide +kernel

theorem witness_InsertionIsByLead :
    [pulseEntry 0 90 .always 0, pulseEntry 1 100 .always 0, pulseEntry 2 100 .always 0].Pairwise
      fun a b => lead 100 a.due ≤ lead 100 b.due := by decide +kernel

/-- The two ends of "reached" and of "not reached" at position 100 (R1). -/
theorem witness_InsertionIsByLead_reached :
    reached 100 100 = true ∧ reached 100 (100 - 2147483647) = true ∧ reached 100 101 = false ∧
    reached 100 (100 + 2147483648) = false := by decide

/-- A refusal for each reason, an entry that waits at the window's far end, and one that is due at once. -/
theorem witness_ScheduleFireOutcomes :
    (let f := { fire0 with due := 100 + 16777216 }
     let s := ready (flying [] 0 none) (.scheduleFire f)
     s.PacketReady (.scheduleFire f) ∧ Claims.fireRefusal s f = some .range ∧
       Claims.fireRefusal { s with engine := .quiescing } f = some .quiesced ∧
       Claims.fireRefusal { s with free := [] } fire0 = some .noEntries) ∧
    (let f := { fire0 with due := 100 + 16777215 }
     let s := ready (flying [] 0 none) (.scheduleFire f)
     s.PacketReady (.scheduleFire f) ∧ Claims.fireRefusal s f = none ∧ s.free = 0 :: (List.range 256).tail ∧
       reached (s.pos f.axis) f.due = false) ∧
    (let f := { fire0 with due := 100 - 16777215 }
     let s := ready (flying [] 0 none) (.scheduleFire f)
     s.PacketReady (.scheduleFire f) ∧ Claims.fireRefusal s f = none ∧ f.repeats = 0 ∧
       reached (s.pos f.axis) f.due = true ∧ ∀ m ∈ (List.range 256).tail, 0 < m) ∧
    (flying [] 0 none).ListQuiet .e1 := by
  refine ⟨by decide +kernel, by decide +kernel, by decide +kernel, trivial⟩

theorem witness_CancelTagRemovesHostEntries :
    let s := ready (flying [hostEntry 0 150, pulseEntry 1 160 .always 0] 1 none) (.cancelTag 7)
    s.PacketReady (.cancelTag 7) ∧ s.engine ≠ .quiescing := by decide +kernel

/-- The last host entry of a QUIESCING part goes, and the part is empty. -/
theorem witness_CancelTag_quiesces :
    let s := ready { flying [hostEntry 0 150] 0 none with slots := State.reset.slots, engine := .quiescing }
      (.cancelTag 7)
    s.PacketReady (.cancelTag 7) ∧ s.engine = .quiescing ∧ s.isEmpty = false ∧
      (after .cancelTag s).isEmpty = true ∧ (after .cancelTag s).engine = .quiesced := by decide +kernel

theorem witness_CancelItem_quiesces :
    let s := ready { live with engine := .quiescing } (.cancelItem h0)
    s.PacketReady (.cancelItem h0) ∧ s.engine = .quiescing ∧ (after .cancelItem s).isEmpty = true ∧
      (after .cancelItem s).engine = .quiesced := by decide +kernel

theorem witness_CancelItemRemovesTheItem :
    ((ready State.reset (.cancelItem h0)).PacketReady (.cancelItem h0) ∧
      (ready State.reset (.cancelItem h0)).findItem h0 = none) ∧
    ((ready live (.cancelItem h0)).PacketReady (.cancelItem h0) ∧
      (ready live (.cancelItem h0)).findItem h0 = some (item0 2 none)) := by decide +kernel

/-- A FREE slot, a slot of another generation, and the three states of a decision. -/
theorem witness_VerdictOutcomes :
    (let s := ready State.reset (.verdict h0 .accept 1)
     s.PacketReady (.verdict h0 .accept 1) ∧ (s.slot 0).item = none) ∧
    (let h : Handle := { gen := 0, slot := 0 }
     let s := ready live (.verdict h .accept 1)
     s.PacketReady (.verdict h .accept 1) ∧ (s.slot 0).gen ≠ h.gen) ∧
    (let s := ready live (.verdict h0 .accept 1)
     s.PacketReady (.verdict h0 .accept 1) ∧ (s.slot 0).item = some (item0 2 none) ∧ (s.slot 0).gen = h0.gen ∧
       (item0 2 none).decision = none) ∧
    (let x := item0 1 (some (.accept, .default))
     ((ready (flying [deadlineEntry 0 150] 1 (some (.accept, .default))) (.verdict h0 .accept 1)).slot 0).item =
       some x ∧ x.decision = some (.accept, .default)) ∧
    (let x := item0 1 (some (.accept, .host))
     ((ready (flying [deadlineEntry 0 150] 1 (some (.accept, .host))) (.verdict h0 .accept 1)).slot 0).item =
       some x ∧ x.decision = some (.accept, .host)) := by decide +kernel

/-- A refusal, and an admission of a step that lies 20 ahead. -/
theorem witness_InjectItemAdmitsOrRefuses :
    (let s := ready State.reset (.injectItem 0 30 44)
     s.PacketReady (.injectItem 0 30 44) ∧ Claims.refusal s 0 = some .noRecipe) ∧
    (let s := ready (withRecipe (counting 100 State.reset)) (.injectItem 0 30 44)
     s.PacketReady (.injectItem 0 30 44) ∧ Claims.refusal s 0 = none ∧ Claims.LowestFree s 0 ∧
       Claims.NothingDue s 0 (s.pos (s.recipe 0).axis - (30 : Word).setWidth 32)) := by
  refine ⟨by decide +kernel, by decide +kernel, by decide +kernel, ⟨by decide +kernel, ?_⟩, trivial,
    by decide +kernel⟩
  intro j hj; exact absurd hj (by simp)

/-- A backdate of 50 makes the step due at once, on an ordered list. -/
theorem witness_InjectItem_due :
    let s := ready (withRecipe (counting 100 State.reset)) (.injectItem 0 50 44)
    s.PacketReady (.injectItem 0 50 44) ∧ Claims.refusal s 0 = none ∧
      ((s.list .e1).Pairwise fun a b => lead (s.pos .e1) a.due ≤ lead (s.pos .e1) b.due) ∧
      (s.slot 0).item = none ∧ (after .injectItem s).e1List = [] := by decide +kernel

/-- A host entry that is due at once and repeats, on an ordered list. -/
theorem witness_ScheduleFire_repeats :
    let f := { fire0 with due := 95, repeats := 9, spacing := 3 }
    let s := ready live (.scheduleFire f)
    s.PacketReady (.scheduleFire f) ∧ Claims.fireRefusal s f = none ∧ s.free = 2 :: s.free.tail ∧
      ((s.list .e1).Pairwise fun a b => lead (s.pos .e1) a.due ≤ lead (s.pos .e1) b.due) ∧
      (after .scheduleFire s).e1List.map Entry.due = [101, 150, 160] := by decide +kernel

theorem witness_RecipePacketsWriteStaging :
    (let h : RecipeHeader := { axis := .e1, first := 127, count := 1, dflt := .accept }
     (ready State.reset (.writeRecipe 15 h)).PacketReady (.writeRecipe 15 h)) ∧
    (ready State.reset (.writeSteps 127 [step0])).PacketReady (.writeSteps 127 [step0]) ∧
    ((ready State.reset .copyBank).PacketReady .copyBank ∧
      (ready State.reset .copyBank).activeBank.validate = none) := by decide +kernel

/-- A header over steps 126 and 127. -/
def lastHeader : RecipeHeader := { axis := .t, first := 126, count := 2, dflt := .accept }

/-- A bank whose recipe 3 covers steps 126 and 127. -/
def bankWith (a b : StoredStep) : Bank :=
  { headers := Bank.reset.headers.set 3 lastHeader, steps := (Bank.reset.steps.set 126 a).set 127 b }

/-- A DEADLINE step that is written. -/
def deadlineStep : StoredStep := { step := { step0 with action := .deadline }, written := true }

theorem witness_SwitchBankValidates :
    ((ready State.reset .switchBank).PacketReady .switchBank ∧
      ∀ r : Fin 16, (ready State.reset .switchBank).stagingBank.headers[r].count = 0) ∧
    (let b := bankWith deadlineStep StoredStep.reset
     (∀ j : Fin 16, j < 3 → b.headers[j].count = 0) ∧ b.headers[(3 : Fin 16)].count ≠ 0 ∧
       (b.steps[Fin.ofNat 128 (126 + 1)]).written = false ∧
       ∀ m < 1, (b.steps[Fin.ofNat 128 (126 + m)]).written = true) ∧
    (let b := bankWith deadlineStep deadlineStep
     ∀ k < 2, (b.steps[Fin.ofNat 128 (126 + k)]).written = true ∧
       (b.steps[Fin.ofNat 128 (126 + k)]).step.action ≠ .pulse) := by decide +kernel

/-- The glitch at a count of Q (log 8) and at one below it (R94) stand among the cases. -/
theorem witness_DetectorEdgesAndLockoutEnds :
    false = (Detector.reset false).lastLevel ∧
    (true ≠ (Detector.reset false).lastLevel ∧ (Detector.reset false).state = .disabled) ∧
    (true ≠ (waitingDet 255).lastLevel ∧ (waitingDet 255).state = .waiting ∧
      (waitingDet 255).cfg.edge = .rising ∧ (waitingDet 255).cfg.qual ≠ 0) ∧
    (waitingDet 0).cfg.qual = 0 ∧
    (false ≠ (qualifiedDet 0).lastLevel ∧ (qualifiedDet 0).state = .qualifying { t := 0, e1 := 90, e2 := 0 }) ∧
    (let d := { qualifiedDet 0 with count := 9 }
     false ≠ d.lastLevel ∧ d.state = .qualifying { t := 0, e1 := 90, e2 := 0 } ∧ d.count < d.cfg.qual.toNat) ∧
    (let d := { qualifiedDet 10 with state := .lockout, lockoutEnd := 100 }
     let s := (counting 100 State.reset).setDet 0 d
     (s.det 0).state = .lockout ∧ reached (s.pos (s.det 0).cfg.lockAxis) (s.det 0).lockoutEnd = true) ∧
    (let d := { qualifiedDet 10 with state := .lockout, lockoutEnd := 101 }
     let s := (counting 100 State.reset).setDet 0 d
     reached (s.pos (s.det 0).cfg.lockAxis) (s.det 0).lockoutEnd = false) ∧
    (State.reset.det 0).state ≠ .lockout := by decide +kernel

/-- A detector refused, and one admitted, each with its count at Q. -/
theorem witness_QualificationRaisesTheDetection :
    (let s := (counting 100 State.reset).setDet 0 (qualifiedDet 80)
     (s.det 0).state = .qualifying { t := 0, e1 := 90, e2 := 0 } ∧
       (s.det 0).count = (s.det 0).cfg.qual.toNat ∧ Claims.refusal s 0 = some .noRecipe) ∧
    (let s := withRecipe ((counting 100 State.reset).setDet 0 (qualifiedDet 80))
     (s.det 0).state = .qualifying { t := 0, e1 := 90, e2 := 0 } ∧
       (s.det 0).count = (s.det 0).cfg.qual.toNat ∧ Claims.refusal s 0 = none ∧ Claims.LowestFree s 0 ∧
       Claims.NothingDue s 0 90) := by
  refine ⟨by decide +kernel, by decide +kernel, by decide +kernel, by decide +kernel,
    ⟨by decide +kernel, ?_⟩, trivial, by decide +kernel⟩
  intro j hj; exact absurd hj (by simp)

/-- With the capture at 40 the step at delay 50 is due at once, and the admission's own pass releases it. -/
theorem witness_Qualification_due :
    let d := { qualifiedDet 80 with state := .qualifying { t := 0, e1 := 40, e2 := 0 } }
    let s := withRecipe ((counting 100 State.reset).setDet 0 d)
    (s.det 0).count = (s.det 0).cfg.qual.toNat ∧ Claims.refusal s 0 = none ∧ (s.slot 0).item = none ∧
      ((s.list .e1).Pairwise fun a b => lead (s.pos .e1) a.due ≤ lead (s.pos .e1) b.due) ∧
      (after (.qualificationComplete 0) s).e1List = [] := by decide +kernel

theorem witness_DetectorPackets :
    (let p : Packet := .configDetector 7 (waitingDet 3).cfg
     (ready State.reset p).PacketReady p ∧ ((ready State.reset p).det 7).state = .disabled) ∧
    (let p : Packet := .configDetector 7 (waitingDet 3).cfg
     let s := ready (State.reset.setDet 7 (waitingDet 10)) p
     s.PacketReady p ∧ (s.det 7).state ≠ .disabled) ∧
    (ready State.reset (.detectorControl 255 .enable)).PacketReady (.detectorControl 255 .enable) ∧
    (ready State.reset (.detectorControl 0 .disable)).PacketReady (.detectorControl 0 .disable) := by
  decide +kernel

/-- One line for each row of the answers. -/
theorem witness_LineAnswers :
    (lineOf .disabled .reject 0 0).state = .disabled ∧ (lineOf .faulted .reject 0 0).state = .faulted ∧
    (lineOf .idle .reject 0 0).state = .idle ∧
    ((lineOf (.active (pulseTo 90 none)) .extend 0 0).state = .active (pulseTo 90 none) ∧
      (pulseTo 90 none).measure = request0.measure ∧
      (pulseTo 90 none).measure ≠ ({ request0 with unit := .distance } : FiringRequest).measure) ∧
    (lineOf (.active (pulseTo 90 none)) .reject 0 0).busy = true ∧
    (lineOf (.recovery 90) .extend 5 0).state = .recovery 90 ∧
    ((lineOf (.recovery 90) .defer 5 0).busy = true ∧ (lineOf (.recovery 90) .defer 5 0).slot = none) ∧
    ({ lineOf (.recovery 90) .defer 5 0 with slot := some request0 } : Line).slot ≠ none := by decide +kernel

/-- A request of each unit, on each axis. -/
theorem witness_LineAnswers_measure :
    request0.unit = .time ∧
    (let q : FiringRequest := { request0 with unit := .distance, axis := .e2 }
     q.unit = .distance ∧ q.axis = Enc.e2.axis) ∧
    (let q : FiringRequest := { request0 with unit := .distance, axis := .t }
     q.unit = .distance ∧ q.axis = .t) := by decide

theorem witness_PulsesAndRecoveriesEnd :
    (let s := { State.reset with t := 90 }.setLine 1 (lineOf (.active (pulseTo 90 (some 90))) .reject 0 0)
     (s.line 1).state = .active (pulseTo 90 (some 90)) ∧ (90 : Pos) = s.measurePos .time ∧
       (pulseTo 90 (some 90)).guard = some s.t) ∧
    (let s := { State.reset with t := 90 }.setLine 1 (lineOf (.active (pulseTo 91 (some 90))) .reject 0 0)
     (91 : Pos) ≠ s.measurePos .time ∧ (pulseTo 91 (some 90)).guard = some s.t ∧
       ¬ ((pulseTo 91 (some 90)).measure = .time ∧ (pulseTo 91 (some 90)).endPos = s.t)) ∧
    (pulseTo 91 none).guard ≠ some 90 ∧
    (let s := { State.reset with t := 90 }.setLine 1
        { lineOf (.recovery 90) .defer 5 0 with slot := some request0 }
     (s.line 1).state = .recovery s.t ∧ (s.line 1).slot = some request0) ∧
    (let s := { State.reset with t := 90 }.setLine 1 (lineOf (.recovery 90) .defer 5 0)
     (s.line 1).state = .recovery s.t ∧ (s.line 1).slot = none) ∧ (91 : Pos) ≠ 90 := by decide +kernel

theorem witness_LinePackets :
    (ready State.reset (.lineControl 65535 .arm)).PacketReady (.lineControl 65535 .arm) ∧
    (ready State.reset (.lineControl 1 .disarm)).PacketReady (.lineControl 1 .disarm) ∧
    (ready State.reset (.lineControl 0 .clearFault)).PacketReady (.lineControl 0 .clearFault) ∧
    (ready State.reset (.lineControl 32768 .forceOff)).PacketReady (.lineControl 32768 .forceOff) ∧
    (let p : Packet := .configLine 15 (lineOf .idle .defer 1 2).cfg Line.reset.mon
     (ready State.reset p).PacketReady p ∧ ((ready State.reset p).line 15).state = .disabled ∧
       (let s := ready (State.reset.setLine 15 (lineOf .idle .reject 0 0)) p
        s.PacketReady p ∧ (s.line 15).state ≠ .disabled)) := by decide +kernel

/-- A sample below the threshold, one that reaches it, and a channel that has no sample due. -/
theorem witness_MonitorSamples :
    (let s := { State.reset with t := 30, fb := 0x10 }.setLine 4 (watched 0 .shutdown)
     (s.line 4).watching = true ∧ (s.line 4).sampleTime = some s.t ∧
       Claims.raisesFault (s.line 4) (s.fb.getLsbD 4) = false) ∧
    (let s := { State.reset with t := 30, fb := 0x10 }.setLine 4 (watched 1 .shutdown)
     (s.line 4).watching = true ∧ (s.line 4).sampleTime = some s.t ∧
       Claims.raisesFault (s.line 4) (s.fb.getLsbD 4) = true) ∧
    ((State.reset.line 4).watching = false ∧ (watched 0 .report).sampleTime ≠ some 31) := by decide +kernel

end Sys2Proof.Tests
end

section
/-!
What leaves the detectors alone: the events of the Schedule, of the Item Table and of the lines. With the frames of
Laws/Frames.lean this says which events leave the whole input side of the part, its axes and detectors, as it is.
-/
namespace Sys2Proof.Machine

variable (s : State)

/-! ### Events that leave the detectors as they are -/

@[simp] theorem State.request_dets (n : Fin 16) (q : FiringRequest) : (s.request n q).1.dets = s.dets := by
  rw [State.request_eq]

@[simp] theorem State.tally_dets (h : Handle) (a : Answer) : (s.tally h a).dets = s.dets := by
  unfold State.tally; split <;> rfl

@[simp] theorem State.applyDefault_dets (h : Handle) (i : Fin 128) (ax : Axis) (p : Pos) :
    (s.applyDefault h i ax p).dets = s.dets := by
  unfold State.applyDefault; repeat' split
  all_goals rfl

@[simp] theorem State.markLate_dets (h : Handle) : (s.markLate h).dets = s.dets := by
  unfold State.markLate; split <;> rfl

@[simp] theorem State.lowerPending_dets (h : Handle) : (s.lowerPending h).dets = s.dets := by
  unfold State.lowerPending; dsimp only; repeat' split
  all_goals rfl

@[simp] theorem State.engineNotice_dets (before : State) : (s.engineNotice before).dets = s.dets := by
  rcases s.engineNotice_cases before with h | ⟨-, -, h⟩ <;> rw [h]

@[simp] theorem State.actOn_dets (ax : Axis) (e : Entry) : (s.actOn ax e).dets = s.dets := by
  unfold State.actOn; dsimp only; repeat' split
  all_goals simp

@[simp] theorem State.tellLate_dets (ax : Axis) (e : Entry) : (s.tellLate ax e).dets = s.dets := by
  unfold State.tellLate; repeat' split
  all_goals simp

@[simp] theorem State.freeEntry_dets (e : Entry) : (s.freeEntry e).dets = s.dets := by
  unfold State.freeEntry; dsimp only; split <;> simp

@[simp] theorem State.release_dets (ax : Axis) (e : Entry) : (s.release ax e).dets = s.dets := by
  unfold State.release; dsimp only; split <;> simp

@[simp] theorem State.releasePass_dets (ax : Axis) : (s.releasePass ax).dets = s.dets :=
  State.passLoop_induct (fun a b => b.dets = a.dets) (fun _ => rfl)
    (fun _ _ _ _ h _ _ => by simpa using h) _ s

@[simp] theorem State.passEvent_dets (ax : Axis) : (s.passEvent ax).dets = s.dets := by
  simp [State.passEvent]

theorem State.freeEntries_dets (es : List Entry) :
    (es.foldl (fun s e => s.freeEntry e) s).dets = s.dets := by
  induction es generalizing s with
  | nil => rfl
  | cons e es ih => exact (ih _).trans (s.freeEntry_dets e)

@[simp] theorem State.expire_dets (ax : Axis) (p : Pos) : (s.expire ax p).dets = s.dets := by
  simp [State.expire, State.freeEntries_dets]

theorem State.insertEntries_dets (ax : Axis) (es : List Entry) :
    (es.foldl (fun s e => s.insert ax e) s).dets = s.dets := by
  induction es generalizing s with
  | nil => rfl
  | cons e es ih => exact (ih _).trans (s.insert_dets ax e)

@[simp] theorem State.admitItem_dets (q : AdmissionRequest) : (s.admitItem q).dets = s.dets := by
  unfold State.admitItem State.admitTo; split
  · simp [State.insertEntries_dets]
  · rfl

@[simp] theorem State.detectionEvent_dets (n : Fin 8) (r : Fin 16) (c : Capture) :
    (s.detectionEvent n r c).dets = s.dets := by
  unfold State.detectionEvent; dsimp only; split <;> simp

@[simp] theorem State.endPulse_dets (n : Fin 16) (u : Pulse) (r : EndReason) :
    (s.endPulse n u r).dets = s.dets := by
  rw [State.endPulse_eq]; rfl

@[simp] theorem State.offerFireDone_dets (n : Fin 16) (u : Pulse) (r : EndReason) :
    (s.offerFireDone n u r).dets = s.dets := by
  rw [State.offerFireDone_eq]

@[simp] theorem State.offerSlotDrop_dets (n : Fin 16) (r : DropReason) :
    (s.offerSlotDrop n r).dets = s.dets := by
  rw [State.offerSlotDrop_eq]

@[simp] theorem State.pulseEnd_dets (n : Fin 16) : (s.pulseEnd n).dets = s.dets := by
  unfold State.pulseEnd; repeat' split
  all_goals simp

@[simp] theorem State.maxOnExpiry_dets (n : Fin 16) : (s.maxOnExpiry n).dets = s.dets := by
  unfold State.maxOnExpiry; repeat' split
  all_goals simp

@[simp] theorem State.recoveryEnd_dets (n : Fin 16) : (s.recoveryEnd n).dets = s.dets := by
  unfold State.recoveryEnd; dsimp only; repeat' split
  all_goals rfl

@[simp] theorem State.shutdown_dets (n : Fin 16) : (s.shutdown n).dets = s.dets := by
  unfold State.shutdown; split <;> simp

@[simp] theorem State.monitorSample_dets (n : Fin 16) : (s.monitorSample n).dets = s.dets := by
  unfold State.monitorSample State.takeSample State.raiseFault; dsimp only; repeat' split
  all_goals simp

@[simp] theorem State.fenceNotice_dets : s.fenceNotice.dets = s.dets := by
  unfold State.fenceNotice; repeat' split
  all_goals rfl

@[simp] theorem State.fenceTimeout_dets : s.fenceTimeout.dets = s.dets := by
  unfold State.fenceTimeout; repeat' split
  all_goals rfl

theorem State.eachLine_dets {f : State → Fin 16 → State} (h : ∀ (t : State) n, (f t n).dets = t.dets) :
    (s.eachLine f).dets = s.dets := by
  unfold State.eachLine
  generalize allLines = l
  induction l generalizing s with
  | nil => rfl
  | cons n l ih => exact (ih _).trans (h s n)

end Sys2Proof.Machine
end

section
/-!
The input side of the part, its three axes and its detectors, and the commands that leave it as it is.
-/
namespace Sys2Proof

/-- The rows that can move an axis or change a detector. -/
def Instr.actsOnInputs : Instr → Bool
  | .hardwareReset _ _ _ _ | .tick _ | .quadTransition _ _ | .detectorEdge _ _ | .qualificationComplete _
  | .lockoutEnd _ | .configAxis | .presetAxis | .configDetector | .enable | .disable | .engineReset
  | .registerWriteIgnored _ _ => true
  | _ => false

end Sys2Proof

namespace Sys2Proof.Machine

/-- The input side is as it was: the time, both encoder axes and the detectors. -/
structure State.SameInputs (s t : State) : Prop where
  time : t.t = s.t
  enc1 : t.enc1 = s.enc1
  enc2 : t.enc2 = s.enc2
  dets : t.dets = s.dets

theorem State.SameInputs.refl (s : State) : s.SameInputs s := ⟨rfl, rfl, rfl, rfl⟩

theorem State.SameInputs.trans {a b c : State} (h : a.SameInputs b) (k : b.SameInputs c) : a.SameInputs c :=
  ⟨k.time.trans h.time, k.enc1.trans h.enc1, k.enc2.trans h.enc2, k.dets.trans h.dets⟩

theorem State.SameFixed.sameInputs {s t : State} (h : s.SameFixed t) (hd : t.dets = s.dets) :
    s.SameInputs t := ⟨h.time, h.enc1, h.enc2, hd⟩

theorem State.SameOutside.sameInputs {s t : State} (h : s.SameOutside t) (hd : t.dets = s.dets) :
    s.SameInputs t := h.toSameFixed.sameInputs hd

theorem State.SameInputs.encAxis {s t : State} (h : s.SameInputs t) (enc : Enc) :
    t.encAxis enc = s.encAxis enc := by
  cases enc
  · exact h.enc1
  · exact h.enc2

theorem State.SameFixed.encAxis {s t : State} (h : s.SameFixed t) (enc : Enc) :
    t.encAxis enc = s.encAxis enc := by
  cases enc
  · exact h.enc1
  · exact h.enc2

variable (s : State)

/-! ### Packets -/

theorem State.passPacket_inputs (n : Nat) : s.SameInputs (s.passPacket n) := ⟨rfl, rfl, rfl, rfl⟩

theorem State.halt_inputs (code : HaltCode) : s.SameInputs (s.halt code) := ⟨rfl, rfl, rfl, rfl⟩

theorem State.offer_inputs (r : Report) : s.SameInputs (s.offer r) := ⟨rfl, rfl, rfl, rfl⟩

theorem State.setLine_inputs (n : Fin 16) (l : Line) : s.SameInputs (s.setLine n l) := ⟨rfl, rfl, rfl, rfl⟩

/-- A property of the part that a BAD_FIELD halt keeps and that the owner's work brings about holds after the
parser's taking of a packet (R173). -/
theorem State.onPacket_induct {P : State → Prop} {s : State} {kind : PacketKind} {take : Nat → Packet → State}
    (hsame : P s) (hhalt : P (s.halt .badField))
    (htake : ∀ len p, decodeBody kind (s.bodyWords len) = some p → P (take len p)) :
    P (s.onPacket kind take) := by
  rcases s.onPacket_cases kind take with h | ⟨len, -, -, h⟩ | ⟨len, p, -, hp, h⟩ <;> rw [h]
  · exact hsame
  · exact hhalt
  · exact htake len p hp

/-- A packet whose owner leaves the input side alone. -/
theorem State.onPacket_inputs (kind : PacketKind) {take : Nat → Packet → State}
    (h : ∀ len p, s.SameInputs (take len p)) : s.SameInputs (s.onPacket kind take) :=
  State.onPacket_induct (.refl s) (s.halt_inputs _) fun len p _ => h len p

theorem State.forLines_inputs (mask : Word) {act : State → Fin 16 → State}
    (h : ∀ (t : State) n, t.SameInputs (act t n)) : s.SameInputs (s.forLines mask act) := by
  unfold State.forLines
  generalize allLines = l
  induction l generalizing s with
  | nil => exact .refl s
  | cons n l ih =>
    refine State.SameInputs.trans ?_ (ih _)
    dsimp only; split
    · exact h s n
    · exact .refl s

theorem State.armLine_inputs (n : Fin 16) : s.SameInputs (s.armLine n) := by
  unfold State.armLine; dsimp only; split
  · exact s.setLine_inputs _ _
  · exact s.offer_inputs _
  · exact .refl s

theorem State.disarmLine_inputs (n : Fin 16) : s.SameInputs (s.disarmLine n) := by
  have hdrop := fun t : State => (t.offerSlotDrop_outside n .disarmed).sameInputs (t.offerSlotDrop_dets n _)
  unfold State.disarmLine; split
  · exact .refl s
  · have hdone := (s.offerFireDone_outside n ‹_› .disarmed).sameInputs (s.offerFireDone_dets n _ _)
    exact (hdone.trans (hdrop _)).trans (State.setLine_inputs _ _ _)
  · exact (hdrop s).trans (State.setLine_inputs _ _ _)

theorem State.clearLineFault_inputs (n : Fin 16) : s.SameInputs (s.clearLineFault n) := by
  unfold State.clearLineFault; dsimp only; split
  · exact (s.setLine_inputs _ _).trans (State.offer_inputs _ _)
  · exact s.offer_inputs _

theorem State.forceLineOff_inputs (n : Fin 16) : s.SameInputs (s.forceLineOff n) := by
  unfold State.forceLineOff; split
  · exact (s.endPulse_outside _ _ _).sameInputs (s.endPulse_dets _ _ _)
  · exact .refl s

theorem State.configLine_inputs (n : Fin 16) (cfg : LineConfig) (mon : MonitorConfig) :
    s.SameInputs (s.configLine n cfg mon) := by
  unfold State.configLine; dsimp only; split
  · exact s.setLine_inputs _ _
  · exact s.offer_inputs _

theorem State.setStaging_inputs (b : Bank) : s.SameInputs (s.setStaging b) := by
  unfold State.setStaging; constructor <;> simp

theorem State.switchBank_inputs : s.SameInputs s.switchBank := by
  unfold State.switchBank; split <;> exact ⟨rfl, rfl, rfl, rfl⟩

theorem State.takeFence_inputs (f : FenceFields) (len : Nat) : s.SameInputs (s.takeFence f len) := by
  unfold State.takeFence; split <;> exact ⟨rfl, rfl, rfl, rfl⟩

theorem State.injectItem_inputs (r : Fin 16) (backdate tag : Word) :
    s.SameInputs (s.injectItem r backdate tag) := by
  unfold State.injectItem; split
  · exact s.offer_inputs _
  · exact (s.admitItem_outside _).sameInputs (s.admitItem_dets _)

theorem State.verdict_inputs (h : Handle) (v : Verdict) (tag : Word) : s.SameInputs (s.verdict h v tag) := by
  unfold State.verdict; repeat' split
  all_goals exact ⟨rfl, rfl, rfl, rfl⟩

theorem State.removeEntries_dets (p : Entry → Bool) : (s.removeEntries p).dets = s.dets := by
  have h : ∀ (es : List Entry) (t : State), (t.freeNumbers es).dets = t.dets := by
    intro es
    induction es with
    | nil => exact fun _ => rfl
    | cons e es ih => exact fun t => (ih _).trans (t.freeNumber_dets _)
  exact h _ _

theorem State.cancelItem_inputs (h : Handle) : s.SameInputs (s.cancelItem h) := by
  unfold State.cancelItem; split
  · exact s.offer_inputs _
  · refine State.SameOutside.sameInputs ?_ (by simp [State.removeEntries_dets])
    exact (((s.removeEntries_outside _).trans (State.offer_outside _ _)).trans
      (State.setItem_outside _ _ _)).trans (State.engineNotice_outside _ _)

theorem State.cancelTag_inputs (tag : Word) : s.SameInputs (s.cancelTag tag) :=
  ((s.removeEntries_outside _).trans (State.engineNotice_outside _ _)).sameInputs
    (by simp [State.removeEntries_dets])

theorem State.scheduleFire_inputs (f : FireFields) : s.SameInputs (s.scheduleFire f) := by
  unfold State.scheduleFire; split
  · exact s.offer_inputs _
  · unfold State.fireNow; split
    · exact .refl s
    · refine State.SameOutside.sameInputs ?_ (by simp)
      exact (State.SameOutside.trans (.of_eq rfl) (State.insert_outside _ _ _)).trans
        (State.releasePass_outside _ _)

/-! ### Registers -/

theorem State.ringData_inputs (w : Word) : s.SameInputs (s.ringData w) := by
  unfold State.ringData; split <;> exact ⟨rfl, rfl, rfl, rfl⟩

theorem State.resync_inputs (w : Word) : s.SameInputs (s.resync w) := by
  unfold State.resync; split <;> exact ⟨rfl, rfl, rfl, rfl⟩

theorem State.irqStatusWrite_inputs (w : Word) : s.SameInputs (s.irqStatusWrite w) := by
  unfold State.irqStatusWrite; split <;> exact ⟨rfl, rfl, rfl, rfl⟩

theorem State.watermarkWrite_inputs (w : Word) : s.SameInputs (s.watermarkWrite w) := by
  unfold State.watermarkWrite; split <;> exact ⟨rfl, rfl, rfl, rfl⟩

theorem State.spaceLevelWrite_inputs (w : Word) : s.SameInputs (s.spaceLevelWrite w) := by
  unfold State.spaceLevelWrite; split <;> exact ⟨rfl, rfl, rfl, rfl⟩

theorem State.posSelectWrite_inputs (w : Word) : s.SameInputs (s.posSelectWrite w) := by
  unfold State.posSelectWrite; split <;> exact ⟨rfl, rfl, rfl, rfl⟩

theorem State.lineSelectWrite_inputs (w : Word) : s.SameInputs (s.lineSelectWrite w) := by
  unfold State.lineSelectWrite; split <;> exact ⟨rfl, rfl, rfl, rfl⟩

theorem State.startParser_inputs : s.SameInputs s.startParser := by
  unfold State.startParser; split <;> exact ⟨rfl, rfl, rfl, rfl⟩

theorem State.stopParser_inputs : s.SameInputs s.stopParser := by
  unfold State.stopParser; split <;> exact ⟨rfl, rfl, rfl, rfl⟩

theorem State.takeHeader_inputs : s.SameInputs s.takeHeader := by
  unfold State.takeHeader; dsimp only; repeat' split
  all_goals exact ⟨rfl, rfl, rfl, rfl⟩

theorem State.quiesce_inputs : s.SameInputs s.quiesce := by
  unfold State.quiesce; repeat' split
  all_goals exact ⟨rfl, rfl, rfl, rfl⟩

/-- A bus write leaves the input side alone, or is the write of ENGINE_RESET to CMD (R197). -/
theorem State.busWrite_inputs (offset : BitVec 5) (w : Word) :
    s.SameInputs (s.busWrite offset w) ∨ s.busWrite offset w = s.engineReset := by
  unfold State.busWrite; split
  · split
    · rename_i c _
      cases c with
      | startParser => exact .inl s.startParser_inputs
      | stopParser => exact .inl s.stopParser_inputs
      | ringReset => exact .inl ⟨rfl, rfl, rfl, rfl⟩
      | quiesce => exact .inl s.quiesce_inputs
      | resume => exact .inl ⟨rfl, rfl, rfl, rfl⟩
      | engineReset => exact .inr rfl
    · exact .inl (.refl s)
  · exact .inl (s.ringData_inputs w)
  · exact .inl ⟨rfl, rfl, rfl, rfl⟩
  · exact .inl ⟨rfl, rfl, rfl, rfl⟩
  · exact .inl (s.resync_inputs w)
  · exact .inl (s.spaceLevelWrite_inputs w)
  · exact .inl (s.irqStatusWrite_inputs w)
  · exact .inl ⟨rfl, rfl, rfl, rfl⟩
  · exact .inl (s.watermarkWrite_inputs w)
  · exact .inl ⟨rfl, rfl, rfl, rfl⟩
  · exact .inl (s.posSelectWrite_inputs w)
  · exact .inl (s.lineSelectWrite_inputs w)
  · exact .inl (.refl s)

/-! ### Commands -/

/-- Every row that does not act on the input side leaves it as it is. -/
theorem exec_sameInputs {c : Instr} {s t : State} (h : exec c s = .next t) (hc : c.actsOnInputs = false) :
    s.SameInputs t := by
  cases c
  case hardwareReset | tick | quadTransition | detectorEdge | qualificationComplete | lockoutEnd | configAxis
      | presetAxis | configDetector | enable | disable | engineReset | registerWriteIgnored => cases hc
  all_goals cases h
  case scheduleReleasePass ax => exact (s.passEvent_outside ax).sameInputs (s.passEvent_dets ax)
  case pulseEnd n => exact (s.pulseEnd_outside n).sameInputs (s.pulseEnd_dets n)
  case maxOnExpiry n => exact (s.maxOnExpiry_outside n).sameInputs (s.maxOnExpiry_dets n)
  case recoveryEnd n => exact (s.recoveryEnd_outside n).sameInputs (s.recoveryEnd_dets n)
  case monitorSample n => exact (s.monitorSample_outside n).sameInputs (s.monitorSample_dets n)
  case fenceNotice => exact s.fenceNotice_fixed.sameInputs s.fenceNotice_dets
  case fenceTimeout => exact s.fenceTimeout_fixed.sameInputs s.fenceTimeout_dets
  case parserTakeHeader => exact s.takeHeader_inputs
  case pad => exact s.onPacket_inputs _ fun len _ => s.passPacket_inputs len
  case mark =>
    exact s.onPacket_inputs _ fun len p => by
      split
      exacts [(s.offer_inputs _).trans (State.passPacket_inputs _ len), .refl s]
  case fence =>
    exact s.onPacket_inputs _ fun len p => by
      split
      exacts [s.takeFence_inputs _ len, .refl s]
  case configLine =>
    exact s.onPacket_inputs _ fun len p => by
      split
      exacts [(s.configLine_inputs _ _ _).trans (State.passPacket_inputs _ len), .refl s]
  case arm =>
    exact s.onPacket_inputs _ fun len p => by
      split
      exacts [(s.forLines_inputs _ State.armLine_inputs).trans (State.passPacket_inputs _ len), .refl s]
  case disarm =>
    exact s.onPacket_inputs _ fun len p => by
      split
      exacts [(s.forLines_inputs _ State.disarmLine_inputs).trans (State.passPacket_inputs _ len), .refl s]
  case clearFault =>
    exact s.onPacket_inputs _ fun len p => by
      split
      exacts [(s.forLines_inputs _ State.clearLineFault_inputs).trans (State.passPacket_inputs _ len), .refl s]
  case forceOff =>
    exact s.onPacket_inputs _ fun len p => by
      split
      exacts [(s.forLines_inputs _ State.forceLineOff_inputs).trans (State.passPacket_inputs _ len), .refl s]
  case writeRecipe =>
    exact s.onPacket_inputs _ fun len p => by
      split
      exacts [(s.setStaging_inputs _).trans (State.passPacket_inputs _ len), .refl s]
  case writeSteps =>
    exact s.onPacket_inputs _ fun len p => by
      split
      exacts [(s.setStaging_inputs _).trans (State.passPacket_inputs _ len), .refl s]
  case injectItem =>
    exact s.onPacket_inputs _ fun len p => by
      split
      exacts [(s.injectItem_inputs _ _ _).trans (State.passPacket_inputs _ len), .refl s]
  case verdict =>
    exact s.onPacket_inputs _ fun len p => by
      split
      exacts [(s.verdict_inputs _ _ _).trans (State.passPacket_inputs _ len), .refl s]
  case cancelItem =>
    exact s.onPacket_inputs _ fun len p => by
      split
      exacts [(s.cancelItem_inputs _).trans (State.passPacket_inputs _ len), .refl s]
  case scheduleFire =>
    exact s.onPacket_inputs _ fun len p => by
      split
      exacts [(s.scheduleFire_inputs _).trans (State.passPacket_inputs _ len), .refl s]
  case cancelTag =>
    exact s.onPacket_inputs _ fun len p => by
      split
      exacts [(s.cancelTag_inputs _).trans (State.passPacket_inputs _ len), .refl s]
  case copyBank =>
    exact s.onPacket_inputs _ fun len _ => (s.setStaging_inputs _).trans (State.passPacket_inputs _ len)
  case switchBank =>
    exact s.onPacket_inputs _ fun len _ => s.switchBank_inputs.trans (State.passPacket_inputs _ len)
  case startParser => exact s.startParser_inputs
  case stopParser => exact s.stopParser_inputs
  case quiesce => exact s.quiesce_inputs
  case ringData w => exact s.ringData_inputs w
  case resync w => exact s.resync_inputs w
  case irqStatusWrite w => exact s.irqStatusWrite_inputs w
  case reportWatermarkWrite w => exact s.watermarkWrite_inputs w
  case ringSpaceLevelWrite w => exact s.spaceLevelWrite_inputs w
  case posSelectWrite w => exact s.posSelectWrite_inputs w
  case lineSelectWrite w => exact s.lineSelectWrite_inputs w
  all_goals exact ⟨rfl, rfl, rfl, rfl⟩

end Sys2Proof.Machine
end

section
/-!
The Axis Unit: what a transition, CONFIG_AXIS and PRESET_AXIS make of an encoder axis, and which commands move one.
-/
namespace Sys2Proof.Machine

variable (s : State)

@[simp] theorem State.setEncAxis_setEncAxis (enc : Enc) (a b : EncAxis) :
    (s.setEncAxis enc a).setEncAxis enc b = s.setEncAxis enc b := by cases enc <;> rfl

@[simp] theorem State.setEncAxis_encAxis (enc : Enc) : s.setEncAxis enc (s.encAxis enc) = s := by
  cases enc <;> rfl

/-! ### The decoder (R6) -/

/-- The model's rule of pairs agrees with the table of R6. -/
theorem classify_pairs (la lb na nb invert : Bool) :
    let last : Phases := ⟨la, lb⟩
    let new : Phases := ⟨na, nb⟩
    let fwd := if invert then Claims.backwardPair last new else Claims.forwardPair last new
    let bwd := if invert then Claims.forwardPair last new else Claims.backwardPair last new
    classify last new invert = if fwd then .forward else if bwd then .backward else .error := by
  revert la lb na nb invert; decide

theorem classify_eq (a : EncAxis) (ph : Phases) :
    classify a.phases ph a.cfg.invert =
      if Claims.countsForward a ph then .forward
      else if Claims.countsBackward a ph then .backward else .error :=
  classify_pairs _ _ _ _ _

/-! ### Offers on a state -/

/-- The part after it has offered several records, one after another (R150). -/
def State.offerAll (rs : List Report) : State := { s with queue := Claims.offers s.queue rs }

@[simp] theorem State.offerAll_nil : s.offerAll [] = s := rfl

@[simp] theorem State.offerAll_singleton (r : Report) : s.offerAll [r] = s.offer r := rfl

theorem State.offerAll_setEncAxis (enc : Enc) (a : EncAxis) (rs : List Report) :
    (s.setEncAxis enc a).offerAll rs =
      { s.setEncAxis enc a with queue := Claims.offers s.queue rs } := by
  rw [State.offerAll, State.setEncAxis_queue]

/-! ### Units under the direction policy (R9 to R11) -/

/-- The records of a backward unit: AXIS_DEBT_LIMIT at a discard with the latch clear (R11). -/
def debtRecords (enc : Enc) (a : EncAxis) : List Report :=
  if a.cfg.policy = .forwardOnly ∧ 65535 ≤ a.debt ∧ a.debtLatch = false then [debtLimitReport enc a.pos] else []

/-- A forward unit pays one unit of debt and changes nothing but its axis, or advances the position (R9, R10). -/
theorem State.forwardUnit_cases {s : State} {enc : Enc} {a : EncAxis} (ha : s.encAxis enc = a) :
    ((Claims.forwardUnit a).pos = a.pos ∧ s.forwardUnit enc = s.setEncAxis enc (Claims.forwardUnit a)) ∨
    (Claims.forwardUnit a = { a with pos := a.pos + 1 } ∧ s.forwardUnit enc = s.advance enc) := by
  unfold State.forwardUnit Claims.forwardUnit
  simp only [ha]
  cases hp : a.cfg.policy with
  | bidirectional => exact .inr (by simp)
  | forwardOnly =>
    by_cases hd : a.debt = 0
    · exact .inr (by simp [hd])
    · rw [if_pos ⟨rfl, Nat.pos_of_ne_zero hd⟩]
      exact .inl ⟨rfl, if_neg hd⟩

/-- A backward unit adds to the debt or is discarded, which changes nothing but its axis and the records, or it
takes the position back (R9, R10, R11). -/
theorem State.backwardUnit_cases {s : State} {enc : Enc} {a : EncAxis} (ha : s.encAxis enc = a) :
    ((Claims.backwardUnit a).pos = a.pos ∧
      s.backwardUnit enc = (s.setEncAxis enc (Claims.backwardUnit a)).offerAll (debtRecords enc a)) ∨
    (Claims.backwardUnit a = { a with pos := a.pos - 1 } ∧ s.backwardUnit enc = s.backwardChange enc) := by
  unfold State.backwardUnit Claims.backwardUnit debtRecords
  simp only [ha]
  cases hp : a.cfg.policy with
  | bidirectional => exact .inr (by simp)
  | forwardOnly =>
    refine .inl ?_
    by_cases hd : a.debt < 65535
    · simp [hd, Nat.not_le_of_lt hd, Config.debtLimit]
    · have hn : 65535 ≤ a.debt := by omega
      cases hl : a.debtLatch with
      | false => simp [hd, hn, Config.debtLimit]
      | true =>
        have hs : { a with debtLatch := true } = a := by rw [← hl]
        have hset : s.setEncAxis enc a = s := by rw [← ha, State.setEncAxis_encAxis]
        simp [hd, hs, hset, Config.debtLimit]

/-! ### Transitions (R6 to R12) -/

/-- All that a transition can do: it leaves the position and everything but its axis and the records, it advances
the position, or it takes the position back. -/
theorem State.quadTransition_cases {s : State} {enc : Enc} {a : EncAxis} (ha : s.encAxis enc = a) (ph : Phases) :
    let b := Claims.axisAfter a ph
    (b.pos = a.pos ∧
      s.quadTransition enc ph = (s.setEncAxis enc b).offerAll (Claims.axisRecords enc a ph)) ∨
    (b.pos = a.pos + 1 ∧ s.quadTransition enc ph = (s.setEncAxis enc { b with pos := a.pos }).advance enc) ∨
    (b.pos = a.pos - 1 ∧
      s.quadTransition enc ph = (s.setEncAxis enc { b with pos := a.pos }).backwardChange enc) := by
  intro b
  unfold State.quadTransition
  simp only [ha]
  by_cases hph : ph = a.phases
  · exact .inl (by simp [b, Claims.axisAfter, Claims.axisRecords, hph, ← ha])
  cases hm : a.cfg.mode with
  | halted => exact .inl (by simp [b, Claims.axisAfter, Claims.axisRecords, hph, hm])
  | counting =>
    unfold State.takeTransition
    simp only [ha, hph, if_false, classify_eq]
    by_cases hf : Claims.countsForward a ph = true
    · by_cases hr : a.residue + 1 < a.cfg.divider
      · exact .inl (by
          simp [b, Claims.axisAfter, Claims.axisRecords, countForward, hph, hm, hf, hr, Int.not_le.2 hr])
      · have hb : b = Claims.forwardUnit { a with phases := ph, quadError := false, residue := 0 } := by
          simp [b, Claims.axisAfter, hph, hm, hf, hr]
        simp only [hf, countForward, Int.not_lt.1 hr, if_true]
        rcases State.forwardUnit_cases (s.encAxis_setEncAxis enc _) with ⟨hp, hs⟩ | ⟨hp, hs⟩ <;> rw [hs, hb, hp]
        · exact .inl ⟨rfl, by simp [Claims.axisRecords, hph, hm, hf]⟩
        · exact .inr (.inl ⟨rfl, rfl⟩)
    · by_cases hk : Claims.countsBackward a ph = true
      · by_cases hr : -(a.cfg.divider : Int) < a.residue - 1
        · exact .inl (by
            simp [b, Claims.axisAfter, Claims.axisRecords, countBackward, hph, hm, hf, hk, hr, Int.not_le.2 hr])
        · have hb : b = Claims.backwardUnit { a with phases := ph, quadError := false, residue := 0 } := by
            simp [b, Claims.axisAfter, hph, hm, hf, hk, hr]
          have hrec : Claims.axisRecords enc a ph =
              debtRecords enc { a with phases := ph, quadError := false, residue := 0 } := by
            simp [Claims.axisRecords, debtRecords, debtLimitReport, num, hph, hm, hf, hk, hr]
          simp only [hf, hk, countBackward, Int.not_lt.1 hr, if_true, Bool.false_eq_true, if_false]
          rcases State.backwardUnit_cases (s.encAxis_setEncAxis enc _) with ⟨hp, hs⟩ | ⟨hp, hs⟩ <;> rw [hs, hb]
          · exact .inl ⟨hp, by rw [hrec, State.setEncAxis_setEncAxis]⟩
          · exact .inr (.inr ⟨by rw [hp], by rw [hp]⟩)
      · refine .inl ⟨by simp [b, Claims.axisAfter, hph, hm, hf, hk], ?_⟩
        cases hq : a.quadError <;>
          simp [b, Claims.axisAfter, Claims.axisRecords, quadErrorReport, num, hph, hm, hf, hk, hq]

end Sys2Proof.Machine
end

section
/-!
Which axes a command moves, and the statements about the Axis Unit's packets and bounds.
-/
namespace Sys2Proof.Machine

/-! ### One axis moved -/

/-- Encoder axis `enc` stands at `b`; the other axes are as they were. -/
structure State.AxisMoved (s t : State) (enc : Enc) (b : EncAxis) : Prop where
  own : t.encAxis enc = b
  time : t.t = s.t
  others : ∀ other : Enc, other ≠ enc → t.encAxis other = s.encAxis other

/-- The three axes are as they were. -/
structure State.SameAxes (s t : State) : Prop where
  time : t.t = s.t
  axes : ∀ enc : Enc, t.encAxis enc = s.encAxis enc

theorem State.SameInputs.sameAxes {s t : State} (h : s.SameInputs t) : s.SameAxes t := ⟨h.time, h.encAxis⟩

theorem State.SameFixed.sameAxes {s t : State} (h : s.SameFixed t) : s.SameAxes t := ⟨h.time, h.encAxis⟩

theorem State.AxisMoved.setEncAxis (s : State) (enc : Enc) (b : EncAxis) :
    s.AxisMoved (s.setEncAxis enc b) enc b :=
  ⟨s.encAxis_setEncAxis enc b, s.setEncAxis_t enc b, fun _ h => s.encAxis_setEncAxis_of_ne h b⟩

theorem State.SameAxes.moved {s u t : State} {enc : Enc} {b : EncAxis} (h : s.SameAxes u)
    (k : u.AxisMoved t enc b) : s.AxisMoved t enc b :=
  ⟨k.own, k.time.trans h.time, fun other ho => (k.others other ho).trans (h.axes other)⟩

theorem State.AxisMoved.then {s u t : State} {enc : Enc} {b : EncAxis} (h : s.AxisMoved u enc b)
    (k : u.SameAxes t) : s.AxisMoved t enc b :=
  ⟨(k.axes enc).trans h.own, k.time.trans h.time, fun other ho => (k.axes other).trans (h.others other ho)⟩

theorem State.AxisMoved.trans {s u t : State} {enc : Enc} {a b : EncAxis} (h : s.AxisMoved u enc a)
    (k : u.AxisMoved t enc b) : s.AxisMoved t enc b :=
  ⟨k.own, k.time.trans h.time, fun other ho => (k.others other ho).trans (h.others other ho)⟩

variable (s : State)

/-- An advance moves its axis forward by one (R9). -/
theorem State.advance_moved {s : State} {enc : Enc} {a : EncAxis} (ha : s.encAxis enc = a) :
    s.AxisMoved (s.advance enc) enc { a with pos := a.pos + 1 } := by
  have hs := (s.settleAxis_fixed enc).sameAxes
  unfold State.advance
  simp only [(hs.axes enc).trans ha]
  exact hs.moved (.setEncAxis _ enc _)

/-- The ends that lockouts, pulses and a fence on axis `enc` wait for, kept ahead of its new position `p` (R98,
R119, R184). -/
def State.keepEndsAhead (enc : Enc) (p : Pos) : State :=
  { (s.mapDets (Detector.backward enc.axis p)).mapLines (Line.backward enc p) with
    parser := s.parser.backward enc.axis p }

/-- A backward change: the position lowered, the ends kept ahead, the entries expired, and the notices. -/
theorem State.backwardChange_eq {s : State} {enc : Enc} {a : EncAxis} (ha : s.encAxis enc = a) :
    s.backwardChange enc =
      ((((s.settleAxis enc).setEncAxis enc { a with pos := a.pos - 1 }).keepEndsAhead enc (a.pos - 1)).expire
        enc.axis a.pos).engineNotice (s.settleAxis enc) := by
  subst ha
  rw [← (s.settleAxis_fixed enc).encAxis enc]
  rfl

theorem State.keepEndsAhead_axes (enc : Enc) (p : Pos) : s.SameAxes (s.keepEndsAhead enc p) :=
  ⟨rfl, fun k => by cases k <;> rfl⟩

/-- A backward change moves its axis back by one (R9). -/
theorem State.backwardChange_moved {s : State} {enc : Enc} {a : EncAxis} (ha : s.encAxis enc = a) :
    s.AxisMoved (s.backwardChange enc) enc { a with pos := a.pos - 1 } := by
  rw [State.backwardChange_eq ha]
  exact (((s.settleAxis_fixed enc).sameAxes.moved (.setEncAxis _ enc _)).then
    (State.keepEndsAhead_axes _ enc _)).then
      ((State.expire_outside _ _ _).trans (State.engineNotice_outside _ _)).toSameFixed.sameAxes

/-- A transition moves its axis as the decoder, the divider and the direction policy give, and no other. -/
theorem State.quadTransition_moved (enc : Enc) (ph : Phases) :
    s.AxisMoved (s.quadTransition enc ph) enc (Claims.axisAfter (s.encAxis enc) ph) := by
  have hset := State.AxisMoved.setEncAxis s enc
  rcases State.quadTransition_cases (s := s) (enc := enc) rfl ph with ⟨-, h⟩ | ⟨hp, h⟩ | ⟨hp, h⟩ <;> rw [h]
  · exact (hset _).then ⟨rfl, fun k => by cases k <;> rfl⟩
  · have hadv := (hset _).trans (State.advance_moved (s.encAxis_setEncAxis enc
      { Claims.axisAfter (s.encAxis enc) ph with pos := (s.encAxis enc).pos }))
    simpa only [← hp] using hadv
  · have hback := (hset _).trans (State.backwardChange_moved (s.encAxis_setEncAxis enc
      { Claims.axisAfter (s.encAxis enc) ph with pos := (s.encAxis enc).pos }))
    simpa only [← hp] using hback

/-! ### What a command makes of an encoder axis -/

/-- What a command other than HARDWARE_RESET makes of encoder axis `enc` when it stands at `a`. -/
inductive EncAxis.Change (enc : Enc) (a : EncAxis) : Instr → EncAxis → Prop
  | same (c : Instr) : Change enc a c a
  | transition (ph : Phases) : Change enc a (.quadTransition enc ph) (Claims.axisAfter a ph)
  | configured (cfg : AxisSettings) (h : cfg.wf = true) : Change enc a .configAxis (a.configured cfg)
  | preset (p : Pos) :
    Change enc a .presetAxis { a with pos := p, residue := 0, debt := 0, debtLatch := false }
  | engineReset (c : Instr) : Change enc a c a.engineReset

theorem State.halt_fixed (code : HaltCode) : s.SameFixed (s.halt code) := by constructor <;> rfl

theorem State.onPacket_fixed (kind : PacketKind) {take : Nat → Packet → State}
    (h : ∀ len p, s.SameFixed (take len p)) : s.SameFixed (s.onPacket kind take) :=
  State.onPacket_induct (.refl s) (s.halt_fixed _) fun len p _ => h len p

theorem State.detectorEdge_outside (n : Fin 8) (level : Bool) : s.SameOutside (s.detectorEdge n level) := by
  have hq : ∀ t : State, t.SameOutside (t.startQualifying n) := by
    intro t
    unfold State.startQualifying; dsimp only; split
    · exact (t.setDet_outside _ _).trans (State.detect_outside _ _ _)
    · exact t.setDet_outside _ _
  have h1 := s.setDet_outside n { s.det n with lastLevel := level }
  unfold State.detectorEdge; dsimp only; repeat' split
  · exact .refl s
  · exact h1
  · exact h1
  · exact h1.trans (hq _)
  · exact h1
  · exact h1
  · exact h1.trans (State.setDet_outside _ _ _)

theorem State.forDetectors_outside (mask : ByteField) {act : State → Fin 8 → State}
    (h : ∀ (t : State) n, t.SameOutside (act t n)) : s.SameOutside (s.forDetectors mask act) :=
  s.eachDetector_outside (f := fun s n => if mask.getLsbD n.val then act s n else s) fun t n => by
    split
    · exact h t n
    · exact .refl t

theorem State.configDetector_outside (n : Fin 8) (cfg : DetectorConfig) :
    s.SameOutside (s.configDetector n cfg) := by
  unfold State.configDetector; dsimp only; split
  · exact s.setDet_outside _ _
  · exact s.offer_outside _

theorem State.enableDetector_outside (n : Fin 8) : s.SameOutside (s.enableDetector n) := by
  unfold State.enableDetector; dsimp only; split
  · exact s.setDet_outside _ _
  · exact .refl s

theorem State.tick_axes (fb : Word) (enc : Enc) : (s.tick fb).encAxis enc = s.encAxis enc := by
  unfold State.tick State.advanceT
  rw [State.mapDets_encAxis, ← s.settleAll_fixed.encAxis enc]
  generalize s.settleAll = u
  cases enc <;> rfl

theorem State.engineReset_encAxis (enc : Enc) : s.engineReset.encAxis enc = (s.encAxis enc).engineReset := by
  cases enc <;> rfl

/-- The rows of the detectors leave the axes as they are. -/
theorem exec_detectorRow_fixed {c : Instr} {s t : State} (h : exec c s = .next t)
    (hc : (∃ n level, c = .detectorEdge n level) ∨ (∃ n, c = .qualificationComplete n) ∨
      (∃ n, c = .lockoutEnd n) ∨ c = .configDetector ∨ c = .enable ∨ c = .disable) :
    s.SameFixed t := by
  have hpass := fun {u : State} (len : Nat) (hu : s.SameOutside u) =>
    hu.toSameFixed.trans (u.passPacket_fixed len)
  rcases hc with ⟨n, level, rfl⟩ | ⟨n, rfl⟩ | ⟨n, rfl⟩ | rfl | rfl | rfl <;> cases h
  · exact (s.detectorEdge_outside n level).toSameFixed
  · exact (s.qualificationComplete_outside n).toSameFixed
  · exact (s.lockoutEnd_outside n).toSameFixed
  · exact s.onPacket_fixed _ fun len p => by
      split
      exacts [hpass len (s.configDetector_outside _ _), .refl s]
  · exact s.onPacket_fixed _ fun len p => by
      split
      exacts [hpass len (s.forDetectors_outside _ State.enableDetector_outside), .refl s]
  · exact s.onPacket_fixed _ fun len p => by
      split
      exacts [hpass len (s.forDetectors_outside _ fun t n => t.setDet_outside n _), .refl s]

/-- A packet that passes the field checks is well formed (R207). -/
theorem decodeBody_wf {k : PacketKind} {ws : List Word} {p : Packet} (h : decodeBody k ws = some p) :
    p.wf = true := by
  unfold decodeBody at h
  split at h
  · split at h <;> cases h
    assumption
  · cases h

/-- A change that CONFIG_AXIS can bring about. -/
theorem State.configAxis_change (enc k : Enc) {c : AxisSettings} (hc : c.wf = true) :
    EncAxis.Change k (s.encAxis k) .configAxis ((s.configAxis enc c).encAxis k) := by
  unfold State.configAxis; dsimp only; repeat' split
  · exact .same _
  · by_cases hk : k = enc
    · subst hk; rw [State.encAxis_setEncAxis]; exact .configured c hc
    · rw [State.encAxis_setEncAxis_of_ne _ hk]; exact .same _
  · rw [State.offer_encAxis]; exact .same _

/-- A change that PRESET_AXIS can bring about. -/
theorem State.presetAxis_change (enc k : Enc) (p : Pos) :
    EncAxis.Change k (s.encAxis k) .presetAxis ((s.presetAxis enc p).encAxis k) := by
  unfold State.presetAxis; dsimp only; split
  · rw [State.offer_encAxis]; exact .same _
  · by_cases hk : k = enc
    · subst hk; rw [State.encAxis_setEncAxis]; exact .preset p
    · rw [State.encAxis_setEncAxis_of_ne _ hk]; exact .same _

/-- Every command but HARDWARE_RESET makes one of these changes of an encoder axis. -/
theorem exec_axis_change {c : Instr} {s t : State} (h : exec c s = .next t)
    (hc : ∀ p q di fb, c ≠ .hardwareReset p q di fb) (enc : Enc) :
    EncAxis.Change enc (s.encAxis enc) c (t.encAxis enc) := by
  have hsame : s.SameAxes t → EncAxis.Change enc (s.encAxis enc) c (t.encAxis enc) := fun k => by
    rw [k.axes enc]; exact .same c
  cases hi : c.actsOnInputs with
  | false => exact hsame (exec_sameInputs h hi).sameAxes
  | true =>
    cases c
    case hardwareReset p q di fb => exact absurd rfl (hc p q di fb)
    case detectorEdge | qualificationComplete | lockoutEnd | configDetector | enable | disable =>
      exact hsame (exec_detectorRow_fixed h (by simp)).sameAxes
    case tick fb =>
      obtain rfl : s.tick fb = t := Host.Outcome.next.inj h
      rw [s.tick_axes fb enc]; exact .same _
    case quadTransition k ph =>
      cases h
      have hm := s.quadTransition_moved k ph
      by_cases hk : enc = k
      · subst hk; rw [hm.own]; exact .transition ph
      · rw [hm.others enc hk]; exact .same _
    case configAxis =>
      cases h
      refine State.onPacket_induct (P := fun t => EncAxis.Change enc _ .configAxis (t.encAxis enc))
        (.same _) ?_ fun len p hp => ?_
      · rw [(s.halt_fixed _).encAxis]; exact .same _
      · split
        · exact s.configAxis_change _ enc (decodeBody_wf hp)
        · exact .same _
    case presetAxis =>
      cases h
      refine State.onPacket_induct (P := fun t => EncAxis.Change enc _ .presetAxis (t.encAxis enc))
        (.same _) ?_ fun len p _ => ?_
      · rw [(s.halt_fixed _).encAxis]; exact .same _
      · split
        · exact s.presetAxis_change _ enc _
        · exact .same _
    case engineReset => cases h; rw [s.engineReset_encAxis enc]; exact .engineReset _
    case registerWriteIgnored o w =>
      cases h
      rcases s.busWrite_inputs o w with k | k
      · exact hsame k.sameAxes
      · rw [k, s.engineReset_encAxis enc]; exact .engineReset _
    all_goals cases hi

/-- No command but TICK and HARDWARE_RESET moves T (R3). -/
theorem exec_time {c : Instr} {s t : State} (h : exec c s = .next t)
    (hc : ∀ p q di fb, c ≠ .hardwareReset p q di fb) (ht : ∀ fb, c ≠ .tick fb) : t.t = s.t := by
  cases hi : c.actsOnInputs with
  | false => exact (exec_sameInputs h hi).time
  | true =>
    cases c
    case hardwareReset p q di fb => exact absurd rfl (hc p q di fb)
    case tick fb => exact absurd rfl (ht fb)
    case detectorEdge | qualificationComplete | lockoutEnd | configDetector | enable | disable =>
      exact (exec_detectorRow_fixed h (by simp)).time
    case quadTransition k ph => cases h; exact (s.quadTransition_moved k ph).time
    case configAxis =>
      cases h
      refine State.onPacket_induct (P := fun t => t.t = s.t) rfl rfl fun len p _ => ?_
      split
      · unfold State.configAxis; dsimp only; repeat' split
        all_goals simp
      · rfl
    case presetAxis =>
      cases h
      refine State.onPacket_induct (P := fun t => t.t = s.t) rfl rfl fun len p _ => ?_
      split
      · unfold State.presetAxis; dsimp only; split <;> simp
      · rfl
    case engineReset => cases h; rfl
    case registerWriteIgnored o w =>
      cases h
      rcases s.busWrite_inputs o w with k | k
      · exact k.time
      · rw [k]; rfl
    all_goals cases hi

end Sys2Proof.Machine
end

section
/-!
The Axis Unit's statements: which commands move an axis, transitions, CONFIG_AXIS and PRESET_AXIS.
-/
namespace Sys2Proof.Machine

/-! ### Positions and transitions -/

/-- Settings, divider and resets aside, a command that is neither a transition of the axis nor PRESET_AXIS leaves
its position. -/
theorem EncAxis.Change.pos_eq {enc : Enc} {a b : EncAxis} {c : Instr} (h : EncAxis.Change enc a c b)
    (hq : ∀ ph, c ≠ .quadTransition enc ph) (hp : c ≠ .presetAxis) : b.pos = a.pos := by
  cases h with
  | same => rfl
  | transition ph => exact absurd rfl (hq ph)
  | configured => rfl
  | preset => exact absurd rfl hp
  | engineReset => rfl

/-- Settles O20: what each command makes of an axis, and of T. -/
theorem onlyTheseCommandsMoveAnAxis : Obligations.OnlyTheseCommandsMoveAnAxis := by
  intro c s t h hc
  exact ⟨fun ht => exec_time h hc ht, fun enc hq hp => (exec_axis_change h hc enc).pos_eq hq hp⟩

/-- A position moved by one is another position. -/
theorem pos_add_one_ne (p : Pos) : p + 1 ≠ p := by bv_omega

theorem pos_sub_one_ne (p : Pos) : p - 1 ≠ p := by bv_omega

/-- Settles O40: a transition moves its own axis as `Claims.axisAfter` says; where the position stays, the axis and
the records are all that changes. -/
theorem encoderTransitions : Obligations.EncoderTransitions := by
  refine ⟨fun s enc ph => ?_, fun s enc ph hstill => ?_⟩
  · have h := s.quadTransition_moved enc ph
    exact ⟨_, rfl, h.own, h.time, h.others⟩
  · have hpos : (Claims.axisAfter (s.encAxis enc) ph).pos = (s.encAxis enc).pos := by
      simpa [Claims.movesPosition] using hstill
    rcases State.quadTransition_cases (s := s) (enc := enc) rfl ph with ⟨-, h⟩ | ⟨hp, -⟩ | ⟨hp, -⟩
    · rw [← State.offerAll_setEncAxis, ← h]; rfl
    · exact absurd (hp.symm.trans hpos) (pos_add_one_ne _)
    · exact absurd (hp.symm.trans hpos) (pos_sub_one_ne _)

/-! ### The packets of the Axis Unit (R13 to R15) -/

variable {s : State}

theorem Line.holds_iff (enc : Enc) (l : Line) :
    l.holds enc = true ↔ ∃ u, l.state = .active u ∧ u.measure = .distance enc := by
  unfold Line.holds; split <;> simp_all

theorem Detector.holds_iff (ax : Axis) (d : Detector) :
    d.holds ax = true ↔ d.state = .lockout ∧ d.cfg.lockAxis = ax := by
  simp [Detector.holds]

theorem Parser.fencedOn_iff (ax : Axis) (x : Parser) :
    x.fencedOn ax = true ↔ ∃ r, x.state = .fenced r ∧ r.fields.cond = .axisReached ∧ r.fields.axis = .one ax := by
  unfold Parser.fencedOn; split <;> simp_all

/-- A test that one of the lines passes. -/
theorem State.any_line_iff (s : State) (f : Line → Bool) :
    s.lines.toList.any f = true ↔ ∃ n, f (s.line n) = true := by
  simp only [List.any_eq_true, Vector.mem_toList_iff, Vector.mem_iff_getElem, State.line]
  constructor
  · rintro ⟨_, ⟨i, hi, rfl⟩, h⟩; exact ⟨⟨i, hi⟩, h⟩
  · rintro ⟨n, h⟩; exact ⟨_, ⟨n.val, n.isLt, rfl⟩, h⟩

/-- A test that one of the detectors passes. -/
theorem State.any_det_iff (s : State) (f : Detector → Bool) :
    s.dets.toList.any f = true ↔ ∃ n, f (s.det n) = true := by
  simp only [List.any_eq_true, Vector.mem_toList_iff, Vector.mem_iff_getElem, State.det]
  constructor
  · rintro ⟨_, ⟨i, hi, rfl⟩, h⟩; exact ⟨⟨i, hi⟩, h⟩
  · rintro ⟨n, h⟩; exact ⟨_, ⟨n.val, n.isLt, rfl⟩, h⟩

/-- The model's test of an axis in use is the four conditions of R13. -/
theorem State.inUse_iff (s : State) (enc : Enc) : s.inUse enc = true ↔ Claims.InUse s enc := by
  simp only [State.inUse, Claims.InUse, Bool.or_eq_true, State.any_line_iff, State.any_det_iff, Line.holds_iff,
    Detector.holds_iff, Parser.fencedOn_iff, or_assoc, Bool.not_eq_true', ne_eq, List.isEmpty_eq_false_iff]

theorem onlyEnables_iff (old new : AxisSettings) :
    onlyEnables old new = true ↔ Claims.OnlyEnables old new := by
  obtain ⟨om, od, op, oi⟩ := old
  obtain ⟨nm, nd, np, ni⟩ := new
  simp [onlyEnables, Claims.OnlyEnables]

/-- A well-formed CONFIG_AXIS is read back from its words. -/
theorem decodeBody_configAxis {enc : Enc} {c : AxisSettings} (h : c.wf = true) :
    decodeBody .configAxis (Packet.configAxis enc c).body = some (.configAxis enc c) := by
  obtain ⟨m, d, p, i⟩ := c
  have hd : d % 2 ^ 8 = d := by simp [AxisSettings.wf] at h; omega
  have hi : (BitVec.ofNat 16 (flagCode i)).toNat = flagCode i := by cases i <;> rfl
  have he : enc.code % 2 ^ 8 = enc.code := by cases enc <;> rfl
  have hm : m.code % 2 ^ 8 = m.code := by cases m <;> rfl
  have hp : p.code % 2 ^ 8 = p.code := by cases p <;> rfl
  have hf : decodeFields .configAxis (Packet.configAxis enc ⟨m, d, p, i⟩).body =
      some (.configAxis enc ⟨m, d, p, i⟩) := by
    unfold decodeFields
    simp only [Packet.body, wordOf, loByte_word, hiByte_word, BitVec.toNat_ofNat, hd, hi, he, hm, hp,
      decodeEnc_code, decodeMode_code, decodePolicy_code, decodeFlag_code, Option.bind_eq_bind, Option.bind_some]
  have hw : (Packet.configAxis enc ⟨m, d, p, i⟩).wf = true := h
  simp only [decodeBody, hf, hw, if_true]

/-- A PRESET_AXIS is read back from its words. -/
theorem decodeBody_presetAxis (enc : Enc) (p : Pos) :
    decodeBody .presetAxis (Packet.presetAxis enc p).body = some (.presetAxis enc p) := by
  have he : (BitVec.ofNat 16 enc.code).toNat = enc.code := by cases enc <;> rfl
  have hf : decodeFields .presetAxis (Packet.presetAxis enc p).body = some (.presetAxis enc p) := by
    unfold decodeFields
    simp only [Packet.body, he, decodeEnc_code, positionOf_halves, Option.bind_eq_bind, Option.bind_some]
  have hw : (Packet.presetAxis enc p).wf = true := rfl
  simp only [decodeBody, hf, hw, if_true]
/-- CONFIG_AXIS on a ready packet is the owner's work and the advance of read (R173). -/
theorem exec_configAxis_ready {enc : Enc} {c : AxisSettings} (h : s.PacketReady (.configAxis enc c)) :
    exec .configAxis s = .next ((s.configAxis enc c).passPacket 3) :=
  congrArg Host.Outcome.next (State.onPacket_ready h (decodeBody_configAxis h.1) _)

theorem exec_presetAxis_ready {enc : Enc} {p : Pos} (h : s.PacketReady (.presetAxis enc p)) :
    exec .presetAxis s = .next ((s.presetAxis enc p).passPacket 3) :=
  congrArg Host.Outcome.next (State.onPacket_ready h (decodeBody_presetAxis enc p) _)

/-- Settles O42: the three tests of CONFIG_AXIS are those of R14's table. -/
theorem configAxisFourWays : Obligations.ConfigAxisFourWays := by
  intro s enc c hready
  rw [exec_configAxis_ready hready, ← onlyEnables_iff, ← State.inUse_iff]
  unfold State.configAxis
  refine ⟨fun heq => ?_, fun hne htakes => ?_, fun hne honly huse => ?_⟩
  · simp only [heq, if_true]
  · rw [Bool.not_eq_true] at htakes
    simp only [hne, htakes, if_true, if_false]
    rfl
  · simp only [hne, honly, huse, if_false, Bool.true_eq_false]
    rfl

/-- Settles O43: an axis not in use takes the position, an axis in use refuses it. -/
theorem presetAxisSetsThePosition : Obligations.PresetAxisSetsThePosition := by
  intro s enc p hready
  rw [exec_presetAxis_ready hready, ← State.inUse_iff]
  unfold State.presetAxis
  refine ⟨fun huse => ?_, fun huse => ?_⟩
  · rw [if_neg huse]
  · rw [if_pos huse]
    rfl

end Sys2Proof.Machine
end

section
/-!
The invariant of the axes and of the detectors: what each command keeps of their bounds, and the step.
-/
namespace Sys2Proof.Machine

/-! ### Invariants of the step -/

/-- What every command keeps, and the queue of commands does not touch, every step keeps. -/
theorem step_keeps {P : State → Prop}
    (hpending : ∀ (s : State) (rest : List Instr), P s → P { s with pending := rest })
    (hexec : ∀ (c : Instr) (s t : State), P s → exec c s = .next t → P t) (s t : State) (hs : P s)
    (h : step s = .next t) : P t := by
  unfold step at h
  split at h
  · cases h; exact hs
  · exact hexec _ _ _ (hpending s _ hs) h

/-! ### The axes (R8, R9, R10, R14) -/

theorem EncAxis.reset_sound (ph : Phases) : (EncAxis.reset ph).Sound := by
  simp [EncAxis.Sound, EncAxis.reset]

/-- A unit keeps the debt within its limit, and at 0 under BIDIRECTIONAL. -/
theorem Claims.forwardUnit_sound {a : EncAxis} (h : a.Sound) : (Claims.forwardUnit a).Sound := by
  obtain ⟨hd, hr, hdebt, hpol⟩ := h
  unfold Claims.forwardUnit
  split
  · rename_i hf
    refine ⟨hd, hr, ?_, fun hb => absurd (hf.1.symm.trans hb) (by simp)⟩
    have : a.debt - 1 ≤ a.debt := Nat.sub_le _ _
    exact this.trans hdebt
  · exact ⟨hd, hr, hdebt, hpol⟩

theorem Claims.backwardUnit_sound {a : EncAxis} (h : a.Sound) : (Claims.backwardUnit a).Sound := by
  obtain ⟨hd, hr, hdebt, hpol⟩ := h
  unfold Claims.backwardUnit
  split
  · exact ⟨hd, hr, hdebt, hpol⟩
  · rename_i hf
    split
    · rename_i hlt
      exact ⟨hd, hr, hlt, fun hb => absurd hb hf⟩
    · exact ⟨hd, hr, hdebt, hpol⟩

/-- A transition keeps the residue strictly between -D and D: a count that reaches D makes a unit (R8). -/
theorem Claims.axisAfter_sound {a : EncAxis} (h : a.Sound) (ph : Phases) : (Claims.axisAfter a ph).Sound := by
  obtain ⟨hd, hr, hdebt, hpol⟩ := h
  have hzero : EncAxis.Sound { a with phases := ph, quadError := false, residue := 0 } :=
    ⟨hd, by simp only; omega, hdebt, hpol⟩
  unfold Claims.axisAfter
  split
  · exact ⟨hd, hr, hdebt, hpol⟩
  split
  · exact ⟨hd, hr, hdebt, hpol⟩
  split
  · dsimp only
    split
    · exact ⟨hd, by simp only; omega, hdebt, hpol⟩
    · exact Claims.forwardUnit_sound hzero
  split
  · dsimp only
    split
    · exact ⟨hd, by simp only; omega, hdebt, hpol⟩
    · exact Claims.backwardUnit_sound hzero
  · exact ⟨hd, hr, hdebt, hpol⟩

/-- Every change of an axis keeps its bounds. -/
theorem EncAxis.Change.sound {enc : Enc} {a b : EncAxis} {c : Instr} (h : EncAxis.Change enc a c b)
    (ha : a.Sound) : b.Sound := by
  obtain ⟨hd, hr, hdebt, hpol⟩ := ha
  cases h with
  | same => exact ⟨hd, hr, hdebt, hpol⟩
  | transition ph => exact Claims.axisAfter_sound ⟨hd, hr, hdebt, hpol⟩ ph
  | configured cfg hc =>
    simp only [AxisSettings.wf, Bool.and_eq_true, decide_eq_true_eq] at hc
    refine ⟨hc, ?_, Nat.zero_le _, fun _ => rfl⟩
    simp only [EncAxis.configured]; omega
  | preset p => exact ⟨hd, by simp only; omega, Nat.zero_le _, fun _ => rfl⟩
  | engineReset => exact ⟨hd, by simp only [EncAxis.engineReset]; omega, hdebt, hpol⟩

theorem State.axesSound_iff (s : State) : s.AxesSound ↔ ∀ enc : Enc, (s.encAxis enc).Sound := by
  constructor
  · rintro ⟨h1, h2⟩ (_ | _)
    · exact h1
    · exact h2
  · exact fun h => ⟨h .e1, h .e2⟩

theorem exec_keeps_axesSound (c : Instr) (s t : State) (hs : s.AxesSound) (h : exec c s = .next t) :
    t.AxesSound := by
  by_cases hc : ∀ p q di fb, c ≠ .hardwareReset p q di fb
  · rw [State.axesSound_iff] at hs ⊢
    exact fun enc => (exec_axis_change h hc enc).sound (hs enc)
  · simp only [not_forall, not_not] at hc
    obtain ⟨p, q, di, fb, rfl⟩ := hc
    cases h
    exact ⟨EncAxis.reset_sound p, EncAxis.reset_sound q⟩

/-! ### The detectors (R92, R94) -/

/-- A detector outside QUALIFYING has no bound to keep. -/
theorem Detector.sound_of_not_qualifying {d : Detector} (h : ∀ c, d.state ≠ .qualifying c) : d.Sound := by
  unfold Detector.Sound; split
  · exact absurd ‹_› (h _)
  · trivial

/-- Every detector is sound: `State.DetectorsSound` under a name of its own. -/
structure State.DetectorsInBounds (s : State) : Prop where
  sound : s.DetectorsSound

theorem State.DetectorsInBounds.congr {s t : State} (hs : s.DetectorsInBounds) (h : t.dets = s.dets) :
    t.DetectorsInBounds := ⟨fun n => by rw [State.det_congr h]; exact hs.sound n⟩

theorem State.DetectorsInBounds.setDet {s : State} (hs : s.DetectorsInBounds) (n : Fin 8) {d : Detector}
    (hd : d.Sound) : (s.setDet n d).DetectorsInBounds := ⟨fun m => by
  rw [State.det_setDet]; split
  · exact hd
  · exact hs.sound m⟩

theorem State.DetectorsInBounds.mapDets {s : State} (hs : s.DetectorsInBounds) {f : Detector → Detector}
    (hf : ∀ d : Detector, d.Sound → (f d).Sound) : (s.mapDets f).DetectorsInBounds :=
  ⟨fun n => by rw [State.det_mapDets]; exact hf _ (hs.sound n)⟩

theorem State.DetectorsInBounds.eachDetector {s : State} (hs : s.DetectorsInBounds) {f : State → Fin 8 → State}
    (hf : ∀ (t : State) n, t.DetectorsInBounds → (f t n).DetectorsInBounds) : (s.eachDetector f).DetectorsInBounds :=
  List.foldlRecOn _ _ hs fun t ht n _ => hf t n ht

theorem State.afterDetection_sound (s : State) (d : Detector) (c : Capture) : (s.afterDetection d c).Sound := by
  refine Detector.sound_of_not_qualifying fun c' => ?_
  unfold State.afterDetection; dsimp only; repeat' split
  all_goals simp

/-- A detection event leaves QUALIFYING: the detector's own bound ends with it (R95, R96). -/
theorem State.detect_detectorsInBounds {s : State} {n : Fin 8} (c : Capture) (hs : ∀ m, m ≠ n → (s.det m).Sound) :
    (s.detect n c).DetectorsInBounds := ⟨fun m => by
  unfold State.detect
  rw [State.det_setDet]; split
  · exact State.afterDetection_sound _ _ _
  · rw [State.det_congr (State.detectionEvent_dets _ _ _ _)]
    exact hs m (Ne.symm ‹_›)⟩

theorem State.qualificationComplete_detectorsInBounds {s : State} (n : Fin 8) (hs : s.DetectorsInBounds) :
    (s.qualificationComplete n).DetectorsInBounds := by
  unfold State.qualificationComplete; dsimp only; split
  · split
    · exact State.detect_detectorsInBounds _ fun m _ => hs.sound m
    · exact hs
  · exact hs

theorem State.lockoutEnd_detectorsInBounds {s : State} (n : Fin 8) (hs : s.DetectorsInBounds) :
    (s.lockoutEnd n).DetectorsInBounds := by
  unfold State.lockoutEnd; dsimp only; split
  · exact hs.setDet n (Detector.sound_of_not_qualifying (by simp))
  · exact hs

/-- Qualification starts at a count of 0, and with Q 0 ends in the same event (R92). -/
theorem State.startQualifying_detectorsInBounds {s : State} (n : Fin 8) (hs : s.DetectorsInBounds) :
    (s.startQualifying n).DetectorsInBounds := by
  unfold State.startQualifying; dsimp only; split
  · exact State.detect_detectorsInBounds _ fun m hm => by
      rw [State.det_setDet, if_neg (Ne.symm hm)]; exact hs.sound m
  · rename_i hq
    have hpos : 1 ≤ (s.det n).cfg.qual.toNat := by bv_omega
    exact hs.setDet n ⟨hpos, Nat.zero_le _⟩

theorem State.detectorEdge_detectorsInBounds {s : State} (n : Fin 8) (level : Bool) (hs : s.DetectorsInBounds) :
    (s.detectorEdge n level).DetectorsInBounds := by
  have hlevel : (s.setDet n { s.det n with lastLevel := level }).DetectorsInBounds := hs.setDet n (hs.sound n)
  unfold State.detectorEdge; dsimp only; repeat' split
  · exact hs
  · exact hlevel
  · exact hlevel
  · exact State.startQualifying_detectorsInBounds n hlevel
  · exact hlevel
  · exact hlevel
  · exact hlevel.setDet n (Detector.sound_of_not_qualifying (by simp))

/-- A tick is counted only below Q (R94). -/
theorem Detector.countTick_sound (d : Detector) (h : d.Sound) : d.countTick.Sound := by
  unfold Detector.countTick; split
  · rename_i c hc
    split
    · rename_i hlt
      simp only [Detector.Sound, hc] at h ⊢
      exact ⟨h.1, hlt⟩
    · exact h
  · exact h

theorem Detector.backward_sound (ax : Axis) (p : Pos) (d : Detector) (h : d.Sound) : (d.backward ax p).Sound := by
  unfold Detector.backward; split
  · exact h
  · exact h

theorem Detector.engineReset_sound (d : Detector) : d.engineReset.Sound := by
  refine Detector.sound_of_not_qualifying fun c => ?_
  unfold Detector.engineReset; split <;> simp_all

theorem State.settleAxis_detectorsInBounds {s : State} (enc : Enc) (hs : s.DetectorsInBounds) :
    (s.settleAxis enc).DetectorsInBounds := by
  have hlock : ((s.passEvent enc.axis).eachDetector (State.lockoutEndOn enc.axis)).DetectorsInBounds :=
    (hs.congr (s.passEvent_dets _)).eachDetector fun t n ht => by
      unfold State.lockoutEndOn; split
      · exact State.lockoutEnd_detectorsInBounds n ht
      · exact ht
  have hlines : ∀ t : State, (t.eachLine (State.pulseEndOn enc)).dets = t.dets := fun t =>
    t.eachLine_dets fun u n => by
      unfold State.pulseEndOn; repeat' split
      all_goals simp
  unfold State.settleAxis; dsimp only; split
  · exact hlock.congr ((State.fenceNotice_dets _).trans (hlines _))
  · exact hlock.congr (hlines _)

theorem State.settleAll_detectorsInBounds {s : State} (hs : s.DetectorsInBounds) : s.settleAll.DetectorsInBounds := by
  have hpass : (((s.passEvent .t).passEvent .e1).passEvent .e2).DetectorsInBounds := hs.congr (by simp)
  have hqual := hpass.eachDetector fun t n ht => State.qualificationComplete_detectorsInBounds (s := t) n ht
  have hlock := hqual.eachDetector fun t n ht => State.lockoutEnd_detectorsInBounds (s := t) n ht
  refine hlock.congr ?_
  unfold State.settleAll; dsimp only
  rw [State.fenceTimeout_dets, State.fenceNotice_dets, State.eachLine_dets _ State.monitorSample_dets,
    State.eachLine_dets _ State.recoveryEnd_dets, State.eachLine_dets _ State.maxOnExpiry_dets,
    State.eachLine_dets _ State.pulseEnd_dets]

theorem State.advanceT_detectorsInBounds {s : State} (fb : Word) (hs : s.DetectorsInBounds) :
    (s.advanceT fb).DetectorsInBounds :=
  have hfb : State.DetectorsInBounds { s with t := s.t + 1, fb := fb } := hs.congr rfl
  hfb.mapDets Detector.countTick_sound

theorem State.tick_detectorsInBounds {s : State} (fb : Word) (hs : s.DetectorsInBounds) :
    (s.tick fb).DetectorsInBounds :=
  State.advanceT_detectorsInBounds fb (State.settleAll_detectorsInBounds hs)

theorem State.advance_detectorsInBounds {s : State} (enc : Enc) (hs : s.DetectorsInBounds) :
    (s.advance enc).DetectorsInBounds :=
  (State.settleAxis_detectorsInBounds enc hs).congr (State.setEncAxis_dets _ _ _)

theorem State.backwardChange_detectorsInBounds {s : State} (enc : Enc) (hs : s.DetectorsInBounds) :
    (s.backwardChange enc).DetectorsInBounds := by
  rw [State.backwardChange_eq rfl]
  have hmoved := (State.settleAxis_detectorsInBounds enc hs).congr
    (State.setEncAxis_dets _ enc { s.encAxis enc with pos := (s.encAxis enc).pos - 1 })
  have hback := hmoved.mapDets (Detector.backward_sound enc.axis ((s.encAxis enc).pos - 1))
  exact hback.congr (by rw [State.engineNotice_dets, State.expire_dets]; rfl)

theorem State.quadTransition_detectorsInBounds {s : State} (enc : Enc) (ph : Phases) (hs : s.DetectorsInBounds) :
    (s.quadTransition enc ph).DetectorsInBounds := by
  have hset := fun a : EncAxis => hs.congr (s.setEncAxis_dets enc a)
  rcases State.quadTransition_cases (s := s) (enc := enc) rfl ph with ⟨-, h⟩ | ⟨-, h⟩ | ⟨-, h⟩ <;> rw [h]
  · exact (hset _).congr rfl
  · exact State.advance_detectorsInBounds enc (hset _)
  · exact State.backwardChange_detectorsInBounds enc (hset _)

theorem State.forDetectors_detectorsInBounds {s : State} (mask : ByteField) {act : State → Fin 8 → State}
    (hact : ∀ (t : State) n, t.DetectorsInBounds → (act t n).DetectorsInBounds) (hs : s.DetectorsInBounds) :
    (s.forDetectors mask act).DetectorsInBounds :=
  hs.eachDetector (f := fun s n => if mask.getLsbD n.val then act s n else s) fun t n ht => by
    split
    · exact hact t n ht
    · exact ht

theorem State.configDetector_detectorsInBounds {s : State} (n : Fin 8) (cfg : DetectorConfig)
    (hs : s.DetectorsInBounds) : (s.configDetector n cfg).DetectorsInBounds := by
  unfold State.configDetector; dsimp only; split
  · rename_i hd
    exact hs.setDet n (Detector.sound_of_not_qualifying (by simp [hd]))
  · exact hs.congr rfl

theorem State.enableDetector_detectorsInBounds (s : State) (n : Fin 8) (hs : s.DetectorsInBounds) :
    (s.enableDetector n).DetectorsInBounds := by
  unfold State.enableDetector; dsimp only; split
  · exact hs.setDet n (Detector.sound_of_not_qualifying (by simp))
  · exact hs

theorem State.disableDetector_detectorsInBounds (s : State) (n : Fin 8) (hs : s.DetectorsInBounds) :
    (s.disableDetector n).DetectorsInBounds :=
  hs.setDet n (Detector.sound_of_not_qualifying (by simp))

theorem State.engineReset_dets (s : State) : s.engineReset.dets = (s.mapDets Detector.engineReset).dets := rfl

theorem State.engineReset_detectorsInBounds (s : State) : s.engineReset.DetectorsInBounds := ⟨fun n => by
  rw [State.det_congr s.engineReset_dets, State.det_mapDets]
  exact Detector.engineReset_sound _⟩

theorem State.det_afterReset (p1 p2 : Phases) (di : ByteField) (fb : Word) (n : Fin 8) :
    (State.afterReset p1 p2 di fb).det n = .reset (di.getLsbD n.val) := by
  fin_cases n <;> rfl

theorem State.hardwareReset_detectorsInBounds (s : State) (p1 p2 : Phases) (di : ByteField) (fb : Word) :
    (s.hardwareReset p1 p2 di fb).DetectorsInBounds := ⟨fun n => by
  have hdets : (s.hardwareReset p1 p2 di fb).dets = (State.afterReset p1 p2 di fb).dets := rfl
  rw [State.det_congr hdets, State.det_afterReset]
  exact Detector.sound_of_not_qualifying (by simp [Detector.reset])⟩

/-- A packet row whose owner keeps the detectors' bounds. -/
theorem State.onPacket_detectorsInBounds {s : State} (hs : s.DetectorsInBounds) (kind : PacketKind)
    {take : Nat → Packet → State} (h : ∀ len p, (take len p).DetectorsInBounds) :
    (s.onPacket kind take).DetectorsInBounds :=
  State.onPacket_induct hs (hs.congr (s.halt_inputs _).dets) fun len p _ => h len p

theorem exec_keeps_detectorsInBounds (c : Instr) (s t : State) (hs : s.DetectorsInBounds) (h : exec c s = .next t) :
    t.DetectorsInBounds := by
  have hpass := fun {u : State} (len : Nat) (hu : u.DetectorsInBounds) => hu.congr (u.passPacket_dets len)
  cases hi : c.actsOnInputs with
  | false => exact hs.congr (exec_sameInputs h hi).dets
  | true =>
    cases c
    case hardwareReset p q di fb =>
      cases h
      exact s.hardwareReset_detectorsInBounds p q di fb
    case tick fb =>
      obtain rfl : s.tick fb = t := Host.Outcome.next.inj h
      exact State.tick_detectorsInBounds fb hs
    case quadTransition enc ph => cases h; exact State.quadTransition_detectorsInBounds enc ph hs
    case detectorEdge n level => cases h; exact State.detectorEdge_detectorsInBounds n level hs
    case qualificationComplete n => cases h; exact State.qualificationComplete_detectorsInBounds n hs
    case lockoutEnd n => cases h; exact State.lockoutEnd_detectorsInBounds n hs
    case configAxis =>
      cases h
      exact State.onPacket_detectorsInBounds hs _ fun len p => by
        split
        · refine hpass len (hs.congr ?_)
          unfold State.configAxis; dsimp only; repeat' split
          all_goals simp
        · exact hs
    case presetAxis =>
      cases h
      exact State.onPacket_detectorsInBounds hs _ fun len p => by
        split
        · refine hpass len (hs.congr ?_)
          unfold State.presetAxis; dsimp only; split <;> simp
        · exact hs
    case configDetector =>
      cases h
      exact State.onPacket_detectorsInBounds hs _ fun len p => by
        split
        exacts [hpass len (State.configDetector_detectorsInBounds _ _ hs), hs]
    case enable =>
      cases h
      exact State.onPacket_detectorsInBounds hs _ fun len p => by
        split
        exacts [hpass len (State.forDetectors_detectorsInBounds _ State.enableDetector_detectorsInBounds hs), hs]
    case disable =>
      cases h
      exact State.onPacket_detectorsInBounds hs _ fun len p => by
        split
        exacts [hpass len (State.forDetectors_detectorsInBounds _ State.disableDetector_detectorsInBounds hs), hs]
    case engineReset => cases h; exact s.engineReset_detectorsInBounds
    case registerWriteIgnored o w =>
      cases h
      rcases s.busWrite_inputs o w with k | k
      · exact hs.congr k.dets
      · rw [k]; exact s.engineReset_detectorsInBounds
    all_goals cases hi

/-- Settles O9: every command keeps the bounds of the axes and of the detectors, so every step does. -/
theorem stepKeepsAxesAndDetectorsInBounds : Obligations.StepKeepsAxesAndDetectorsInBounds :=
  ⟨step_keeps (fun _ _ h => h) exec_keeps_axesSound, fun s t hs h =>
    (step_keeps (P := State.DetectorsInBounds) (fun _ _ h => ⟨h.sound⟩) exec_keeps_detectorsInBounds
      s t ⟨hs⟩ h).sound⟩

end Sys2Proof.Machine
end

section
/-!
The resets: what HARDWARE_RESET and ENGINE_RESET leave in each block, and the soundness of the state after reset.
-/
namespace Sys2Proof.Machine

/-! ### The blocks after hardware reset -/

theorem State.line_afterReset (p1 p2 : Phases) (di : ByteField) (fb : Word) (n : Fin 16) :
    (State.afterReset p1 p2 di fb).line n = Line.reset := by
  simp [State.line, State.afterReset]

theorem State.slot_afterReset (p1 p2 : Phases) (di : ByteField) (fb : Word) (i : Fin 64) :
    (State.afterReset p1 p2 di fb).slot i = Slot.reset := by
  simp [State.slot, State.afterReset]

theorem Bank.reset_header (r : Fin 16) : Bank.reset.headers[r] = resetHeader := by simp [Bank.reset]

theorem Bank.reset_step (i : Fin 128) : Bank.reset.steps[i] = StoredStep.reset := by simp [Bank.reset]

/-- A part with no enabled cause drives IRQ_N high (R158). -/
theorem State.irqN_of_disabled {s : State} (h : s.irq.enable = 0) : s.irqN = true := by
  simp [State.irqN, h]

theorem State.itemsInUse_of_free {s : State} (h : ∀ i : Fin 64, (s.slot i).item = none) : s.itemsInUse = 0 :=
  s.itemsInUse_eq_zero.2 h

section HardwareReset

variable (s : State) (p1 p2 : Phases) (di : ByteField) (fb : Word)

theorem State.slot_hardwareReset (i : Fin 64) :
    (s.hardwareReset p1 p2 di fb).slot i = { gen := 0, item := none } := by
  have h : (s.hardwareReset p1 p2 di fb).slots = (State.afterReset p1 p2 di fb).slots := rfl
  rw [State.slot_congr h, State.slot_afterReset]; rfl

theorem State.line_hardwareReset (n : Fin 16) : (s.hardwareReset p1 p2 di fb).line n = Line.reset := by
  have h : (s.hardwareReset p1 p2 di fb).lines = (State.afterReset p1 p2 di fb).lines := rfl
  rw [State.line_congr h, State.line_afterReset]

theorem State.det_hardwareReset (n : Fin 8) :
    (s.hardwareReset p1 p2 di fb).det n = .reset (di.getLsbD n.val) := by
  have h : (s.hardwareReset p1 p2 di fb).dets = (State.afterReset p1 p2 di fb).dets := rfl
  rw [State.det_congr h, State.det_afterReset]

theorem State.bank_hardwareReset (b : BankId) : (s.hardwareReset p1 p2 di fb).bank b = Bank.reset := by
  cases b <;> rfl

theorem State.free_hardwareReset : (s.hardwareReset p1 p2 di fb).free = List.range 256 :=
  by simp only [State.hardwareReset, State.afterReset, Config.entryCount]

end HardwareReset

/-- Settles O6: the reset state, block by block. -/
theorem hardwareResetLeavesTheResetState : Obligations.HardwareResetLeavesTheResetState := by
  intro p1 p2 di fb s
  refine ⟨s.hardwareReset p1 p2 di fb, rfl, rfl, fun enc => by cases enc <;> rfl, rfl, rfl, rfl, ?free,
    ?freeCount, fun i => ?slot, State.itemsInUse_of_free fun i => ?item, rfl, fun b r => ?header,
    fun b i => ?step, fun n => ?det, fun n => ?line, fun n => ?output, rfl, rfl, State.irqN_of_disabled rfl,
    rfl, rfl, rfl, ?ringFree, fun i => rfl, rfl, rfl, rfl, rfl, rfl⟩
  case free => exact s.free_hardwareReset p1 p2 di fb
  case freeCount => rw [State.freeCount, State.free_hardwareReset, List.length_range]
  case slot => exact s.slot_hardwareReset p1 p2 di fb i
  case item => rw [State.slot_hardwareReset]
  case header => rw [State.bank_hardwareReset]; exact Bank.reset_header r
  case step => rw [State.bank_hardwareReset]; exact Bank.reset_step i
  case det => exact s.det_hardwareReset p1 p2 di fb n
  case line => exact s.line_hardwareReset p1 p2 di fb n
  case output => rw [State.output, State.line_hardwareReset]; rfl
  case ringFree =>
    have hring : (s.hardwareReset p1 p2 di fb).ring = Ring.reset := rfl
    rw [hring]; decide

/-! ### The reset state meets every invariant -/

/-- A bank of undefined recipes has nothing to validate (R81). -/
theorem Bank.validate_reset : Bank.reset.validate = none := by
  unfold Bank.validate
  rw [List.findSome?_eq_none_iff]
  intro r _
  rw [Bank.reset_header]; rfl

theorem Bank.reset_sound : Bank.reset.Sound := fun r => by rw [Bank.reset_header]; rfl

theorem State.reset_poolSound : State.reset.PoolSound := by
  have hlisted : State.reset.listedNumbers = [] := rfl
  have hfree : State.reset.free = List.range Config.entryCount := by
    simp only [State.reset, State.afterReset]
  rw [State.PoolSound, hlisted, hfree, List.append_nil]
  exact ⟨.refl _, List.pairwise_lt_range⟩

/-- Without items and entries no pending count is wrong (R50). -/
theorem State.reset_itemsSound : State.reset.ItemsSound := by
  refine ⟨fun i x hx => ?_, fun e he => absurd he List.not_mem_nil⟩
  rw [State.reset, State.slot_afterReset] at hx
  cases hx

theorem Line.reset_sound : Line.reset.Sound := by decide

theorem State.reset_ringSound : State.reset.RingSound :=
  ⟨Nat.le_refl _, ⟨.nil, fun _ h => absurd h List.not_mem_nil⟩, trivial, (fun h => nomatch h), trivial⟩

/-- Settles O8: each invariant at reset. -/
theorem resetStateIsSound : Obligations.ResetStateIsSound := by
  refine ⟨⟨EncAxis.reset_sound _, EncAxis.reset_sound _⟩, State.reset_poolSound, ?_, ?_, State.reset_itemsSound,
    ⟨Bank.reset_sound, Bank.reset_sound, Bank.validate_reset⟩, fun n => ?_, fun n => ?_, ?_, ?_,
    State.reset_ringSound, fun h => nomatch h⟩
  · have hnil : ∀ p : Pos, leadOrdered p [] := fun p => ⟨.nil, fun _ h => absurd h List.not_mem_nil⟩
    exact ⟨hnil _, hnil _, hnil _⟩
  · have hnil : ∀ ax : Axis, ∀ e ∈ ([] : List Entry), e.axis = ax := fun _ _ h => absurd h List.not_mem_nil
    exact ⟨hnil _, hnil _, hnil _⟩
  · rw [State.reset, State.det_afterReset]; trivial
  · rw [State.reset, State.line_afterReset]; exact Line.reset_sound
  · exact ⟨Nat.zero_le _, Nat.zero_le _, rfl, fun _ h => absurd h List.not_mem_nil⟩
  · decide

/-! ### ENGINE_RESET (R203) -/

variable (s : State)

theorem State.slot_engineReset (i : Fin 64) :
    s.engineReset.slot i = { gen := (s.slot i).gen, item := none } := by
  have h : s.engineReset.slots = (s.mapSlots fun x => { x with item := none }).slots := rfl
  rw [State.slot_congr h, State.slot_mapSlots]

theorem State.det_engineReset (n : Fin 8) : s.engineReset.det n = (s.det n).engineReset := by
  rw [State.det_congr s.engineReset_dets, State.det_mapDets]

theorem State.line_engineReset (n : Fin 16) : s.engineReset.line n = (s.line n).engineReset s.t := by
  have h : s.engineReset.lines = (s.mapLines (Line.engineReset s.t)).lines := rfl
  rw [State.line_congr h, State.line_mapLines]

/-- A detector at engine reset: an enabled one is WAITING, and no other field changes (R103). -/
theorem Detector.engineReset_eq (d : Detector) :
    d.engineReset = { d with state := if d.state = .disabled then .disabled else .waiting } := by
  obtain ⟨st, cfg, level, count, lockEnd⟩ := d
  cases st <;> rfl

/-- A line at engine reset: a busy one is IDLE, its slot is empty, and a watching channel is sampled anew (R129,
R143). -/
theorem Line.engineReset_eq (t : Pos) (l : Line) :
    l.engineReset t =
      { l with
        state := if l.busy then .idle else l.state
        slot := none
        mismatch := 0
        sampleTime := if l.watching then some (t + l.mon.settle.setWidth 32 + 1) else none } := by
  obtain ⟨st, cfg, mon, slot, mismatch, sampleTime, sense, fault⟩ := l
  unfold Line.engineReset
  rw [Line.scheduleSample_eq]
  cases st <;> rfl

theorem State.findItem_of_free {s : State} (h : ∀ i : Fin 64, (s.slot i).item = none) (k : Handle) :
    s.findItem k = none := State.findItem_eq_none.2 (.inl (h k.slot))

/-- With every slot FREE the lowest is slot 0 (R46). -/
theorem State.lowestFreeSlot_of_free {s : State} (h : ∀ i : Fin 64, (s.slot i).item = none) :
    s.lowestFreeSlot = some 0 := by
  have hall : allSlots = 0 :: (List.finRange 63).map Fin.succ := List.finRange_succ
  rw [State.lowestFreeSlot, hall, List.find?_cons, h 0]
  rfl

theorem State.free_engineReset : s.engineReset.free = List.range 256 := by
  simp only [State.engineReset, Config.entryCount]

/-- Settles O7: engine reset, block by block. -/
theorem engineResetClearsWorkAndKeepsSettings : Obligations.EngineResetClearsWorkAndKeepsSettings := by
  intro s
  have hfree : ∀ i : Fin 64, (s.engineReset.slot i).item = none := fun i => by rw [State.slot_engineReset]
  exact ⟨s.engineReset, rfl, rfl, fun enc => s.engineReset_encAxis enc, rfl, rfl, rfl,
    s.free_engineReset, by rw [State.freeCount, State.free_engineReset, List.length_range],
    s.slot_engineReset, State.itemsInUse_of_free hfree, State.findItem_of_free hfree,
    State.lowestFreeSlot_of_free hfree, rfl, rfl, rfl,
    fun n => (s.det_engineReset n).trans (Detector.engineReset_eq _),
    fun n => (s.line_engineReset n).trans (Line.engineReset_eq _ _), rfl, rfl, rfl, rfl, rfl, rfl, rfl⟩

end Sys2Proof.Machine
end

section
/-!
Events owed: a quiet part owes none, so that settling leaves it as it is; and the tick.
-/
namespace Sys2Proof.Machine

variable {s : State}

/-! ### Quiet blocks owe nothing (R4) -/

theorem State.engineNotice_self (s : State) : s.engineNotice s = s := by
  unfold State.engineNotice
  rw [if_neg (fun h => h.2.2 h.2.1)]

theorem State.passEvent_quiet {ax : Axis} (h : s.ListQuiet ax) : s.passEvent ax = s := by
  rw [State.passEvent, State.releasePass_quiet h, State.engineNotice_self]

theorem State.qualificationComplete_quiet {n : Fin 8} (h : s.DetectorQuiet n) : s.qualificationComplete n = s := by
  unfold State.qualificationComplete; dsimp only; split
  · rename_i hst
    simp only [State.DetectorQuiet, hst] at h
    exact if_neg h
  · rfl

theorem State.lockoutEnd_quiet {n : Fin 8} (h : s.DetectorQuiet n) : s.lockoutEnd n = s := by
  unfold State.lockoutEnd; dsimp only
  refine if_neg fun ⟨hst, hr⟩ => ?_
  simp only [State.DetectorQuiet, hst, hr, Bool.true_eq_false] at h

theorem State.pulseEnd_quiet {n : Fin 16} (h : s.LineQuiet n) : s.pulseEnd n = s := by
  unfold State.pulseEnd State.endDue; split
  · rename_i hst
    have hend := h.1
    simp only [hst] at hend
    simp [hend.1]
  · rfl

theorem State.maxOnExpiry_quiet {n : Fin 16} (h : s.LineQuiet n) : s.maxOnExpiry n = s := by
  unfold State.maxOnExpiry; split
  · rename_i hst
    have hend := h.1
    simp only [hst] at hend
    exact if_neg hend.2
  · rfl

theorem State.recoveryEnd_quiet {n : Fin 16} (h : s.LineQuiet n) : s.recoveryEnd n = s := by
  unfold State.recoveryEnd; dsimp only; split
  · rename_i hst
    have hend := h.1
    simp only [hst] at hend
    exact if_neg hend
  · rfl

theorem State.monitorSample_quiet {n : Fin 16} (h : s.LineQuiet n) : s.monitorSample n = s :=
  if_neg fun hw => h.2 hw.1 hw.2

theorem State.fenceNotice_quiet (h : s.FenceQuiet) : s.fenceNotice = s := by
  unfold State.fenceNotice; split
  · rename_i hst
    simp only [State.FenceQuiet, hst] at h
    simp [h.1]
  · rfl

theorem State.fenceTimeout_quiet (h : s.FenceQuiet) : s.fenceTimeout = s := by
  unfold State.fenceTimeout; split
  · rename_i hst
    simp only [State.FenceQuiet, hst] at h
    exact if_neg h.2
  · rfl

theorem State.eachLine_eq_self {f : State → Fin 16 → State} (h : ∀ n, f s n = s) : s.eachLine f = s :=
  List.foldlRecOn (motive := fun t => t = s) _ _ rfl fun _ ht n _ => by rw [ht, h n]

theorem State.eachDetector_eq_self {f : State → Fin 8 → State} (h : ∀ n, f s n = s) : s.eachDetector f = s :=
  List.foldlRecOn (motive := fun t => t = s) _ _ rfl fun _ ht n _ => by rw [ht, h n]

/-- On a quiet part no event is owed before a tick. -/
theorem State.settleAll_quiet (h : s.Quiet) : s.settleAll = s := by
  obtain ⟨hlist, hdet, hline, hfence⟩ := h
  unfold State.settleAll; dsimp only
  rw [State.passEvent_quiet (hlist .t), State.passEvent_quiet (hlist .e1), State.passEvent_quiet (hlist .e2),
    State.eachDetector_eq_self fun n => State.qualificationComplete_quiet (hdet n),
    State.eachDetector_eq_self fun n => State.lockoutEnd_quiet (hdet n),
    State.eachLine_eq_self fun n => State.pulseEnd_quiet (hline n),
    State.eachLine_eq_self fun n => State.maxOnExpiry_quiet (hline n),
    State.eachLine_eq_self fun n => State.recoveryEnd_quiet (hline n),
    State.eachLine_eq_self fun n => State.monitorSample_quiet (hline n),
    State.fenceNotice_quiet hfence, State.fenceTimeout_quiet hfence]

/-- On a quiet part no event is owed before an encoder axis's position changes. -/
theorem State.settleAxis_quiet (h : s.Quiet) (enc : Enc) : s.settleAxis enc = s := by
  obtain ⟨hlist, hdet, hline, hfence⟩ := h
  have hlock : s.eachDetector (State.lockoutEndOn enc.axis) = s := State.eachDetector_eq_self fun n => by
    unfold State.lockoutEndOn; split
    · exact State.lockoutEnd_quiet (hdet n)
    · rfl
  have hpulse : s.eachLine (State.pulseEndOn enc) = s := State.eachLine_eq_self fun n => by
    unfold State.pulseEndOn; repeat' split
    · exact State.pulseEnd_quiet (hline n)
    all_goals rfl
  unfold State.settleAxis; dsimp only
  rw [State.passEvent_quiet (hlist enc.axis), hlock, hpulse, State.fenceNotice_quiet hfence, ite_self]

/-! ### The rows of the events owed -/

theorem runs_eachDetector {f : State → Fin 8 → State} {c : Fin 8 → Instr}
    (h : ∀ t n, exec (c n) t = .next (f t n)) (s : State) :
    Claims.Runs s ((List.finRange 8).map c) (s.eachDetector f) := runs_map h _

theorem runs_eachLine {f : State → Fin 16 → State} {c : Fin 16 → Instr}
    (h : ∀ t n, exec (c n) t = .next (f t n)) (s : State) :
    Claims.Runs s ((List.finRange 16).map c) (s.eachLine f) := runs_map h _

/-- Settling takes the events owed, each by its own row. -/
theorem runs_owedEvents (s : State) : Claims.Runs s Claims.owedEvents s.settleAll := by
  unfold Claims.owedEvents State.settleAll
  extract_lets s1 s2 s3 s4 s5 s6 s7
  have h1 : Claims.Runs s [.scheduleReleasePass .t, .scheduleReleasePass .e1, .scheduleReleasePass .e2] s1 :=
    ⟨_, rfl, _, rfl, _, rfl, rfl⟩
  have h2 := runs_append h1 (runs_eachDetector (c := .qualificationComplete) (fun _ _ => rfl) s1)
  have h3 := runs_append h2 (runs_eachDetector (c := .lockoutEnd) (fun _ _ => rfl) s2)
  have h4 := runs_append h3 (runs_eachLine (c := .pulseEnd) (fun _ _ => rfl) s3)
  have h5 := runs_append h4 (runs_eachLine (c := .maxOnExpiry) (fun _ _ => rfl) s4)
  have h6 := runs_append h5 (runs_eachLine (c := .recoveryEnd) (fun _ _ => rfl) s5)
  have h7 := runs_append h6 (runs_eachLine (c := .monitorSample) (fun _ _ => rfl) s6)
  exact runs_append h7 ⟨_, rfl, _, rfl, rfl⟩

/-! ### The tick (R3, R94) -/

/-- A tick raises the count of a detector in QUALIFYING, up to Q. -/
theorem Detector.countTick_eq (d : Detector) :
    d.countTick =
      { d with count :=
          match d.state with
          | .qualifying _ => if d.count < d.cfg.qual.toNat then d.count + 1 else d.count
          | _ => d.count } := by
  obtain ⟨st, cfg, level, count, lockEnd⟩ := d
  cases st with
  | qualifying c => simp only [Detector.countTick]; split <;> rfl
  | disabled | waiting | lockout => rfl

/-- Below Q every tick counts. -/
theorem Detector.countTick_of_below {d : Detector}
    (h : ∀ c, d.state = .qualifying c → d.count < d.cfg.qual.toNat) :
    d.countTick =
      { d with count :=
          match d.state with
          | .qualifying _ => d.count + 1
          | _ => d.count } := by
  obtain ⟨st, cfg, level, count, lockEnd⟩ := d
  cases st with
  | qualifying c => exact if_pos (h c rfl)
  | disabled | waiting | lockout => rfl

/-- A quiet detector within its bound has counted less than Q (R94). -/
theorem State.count_lt_of_quiet {n : Fin 8} (hq : s.DetectorQuiet n) (hs : (s.det n).Sound) (c : Capture)
    (hst : (s.det n).state = .qualifying c) : (s.det n).count < (s.det n).cfg.qual.toNat := by
  simp only [State.DetectorQuiet, Detector.Sound, hst] at hq hs
  omega

theorem State.advanceT_det (u : State) (fb : Word) (n : Fin 8) : (u.advanceT fb).det n = (u.det n).countTick := by
  rw [State.advanceT, State.det_mapDets]; rfl

/-- The advance of T changes T, the FB levels and the detectors. -/
theorem State.advanceT_frame (u : State) (fb : Word) :
    { u.advanceT fb with t := u.t, fb := u.fb, dets := u.dets } = u := rfl

/-- Settles O39: the owed events by their rows, and then the advance of T. -/
theorem tickAdvancesTime : Obligations.TickAdvancesTime := by
  refine ⟨fun s fb => ⟨s.settleAll, s.tick fb, runs_owedEvents s, rfl, ?_⟩,
    fun s fb hquiet hsound => ⟨s.tick fb, rfl, ?_⟩⟩
  · have h := s.settleAll_fixed
    unfold State.tick
    generalize s.settleAll = u at h
    exact ⟨congrArg (· + 1) h.time, rfl, fun n => (u.advanceT_det fb n).trans (Detector.countTick_eq _),
      u.advanceT_frame fb, h.enc1, h.enc2, h.bank0, h.bank1, h.active, h.irq, h.bus, h.words, h.publish, h.fill⟩
  · obtain ⟨-, hdet, -, -⟩ := id hquiet
    unfold State.tick
    rw [State.settleAll_quiet hquiet]
    exact ⟨rfl, rfl, fun n => (s.advanceT_det fb n).trans
      (Detector.countTick_of_below (State.count_lt_of_quiet (hdet n) (hsound n))),
      s.advanceT_frame fb⟩

end Sys2Proof.Machine
end

section
/-!
Expiry: what the freeing of several entries, one after another, leaves of the items they belong to and offers (R23,
R34, R65).
-/
namespace Sys2Proof.Machine

variable (s : State)

/-! ### One item left by several of its entries -/

/-- An item after `k` of its entries are freed: its pending count lower by `k`, or no item when none is left. -/
def Item.lowered (k : Nat) (x : Item) : Option Item :=
  if k = 0 then some x else if k < x.pending then some { x with pending := x.pending - k } else none

/-- One entry more. -/
theorem Item.lowered_succ (x : Item) (k : Nat) : (x.lowered k).bind (Item.lowered 1) = x.lowered (k + 1) := by
  unfold Item.lowered
  by_cases hk : k = 0
  · subst hk; rfl
  · by_cases hp : k < x.pending
    · by_cases hq : k + 1 < x.pending
      · have h1 : 1 < x.pending - k := by omega
        simp [hk, hp, hq, h1, Nat.sub_sub]
      · have h1 : ¬ 1 < x.pending - k := by omega
        simp [hk, hp, hq, h1]
    · have hq : ¬ k + 1 < x.pending := by omega
      simp [hk, hp, hq]

/-- ITEM_DONE, when an item's last entry is freed (R65). -/
def lastEntryRecords (h : Handle) : Option Item → List Report
  | some x => if x.pending ≤ 1 then [itemDoneReport h { x with pending := 0 }] else []
  | none => []

/-- The entry that leaves an item without one is the one that brings the number freed to its pending count. -/
theorem lastEntryRecords_lowered (h : Handle) (x : Item) (k : Nat) :
    lastEntryRecords h (x.lowered k) =
      if k + 1 = max 1 x.pending then [itemDoneReport h { x with pending := 0 }] else [] := by
  unfold Item.lowered
  by_cases hk : k = 0
  · subst hk
    have hiff : (x.pending ≤ 1) ↔ (0 + 1 = max 1 x.pending) := by omega
    simp only [if_true, lastEntryRecords, hiff]
  · by_cases hp : k < x.pending
    · have hiff : (x.pending - k ≤ 1) ↔ (k + 1 = max 1 x.pending) := by omega
      simp only [hk, hp, if_true, if_false, lastEntryRecords, hiff]
    · have hne : ¬ (k + 1 = max 1 x.pending) := by omega
      simp only [hk, hp, hne, if_false, lastEntryRecords]

theorem Claims.slotAfterFreeing_eq (gone : List Entry) (i : Fin 64) :
    Claims.slotAfterFreeing s gone i =
      { s.slot i with item := (s.slot i).item.bind (Item.lowered (gone.countP (Entry.ofItem (s.handleOf i)))) } := by
  unfold Claims.slotAfterFreeing Item.lowered
  generalize gone.countP (Entry.ofItem (s.handleOf i)) = k
  rcases hs : s.slot i with ⟨gen, _ | x⟩
  · rfl
  · dsimp only [Option.bind_some]; split
    · rfl
    · split <;> rfl

/-! ### One entry freed -/

/-- One freed entry lowers the pending count of the item that its handle names, and of no other (R34, R65). -/
theorem State.lowerPending_slot (h : Handle) (i : Fin 64) :
    (s.lowerPending h).slot i =
      if h = s.handleOf i then { s.slot i with item := (s.slot i).item.bind (Item.lowered 1) } else s.slot i := by
  unfold State.lowerPending
  by_cases hh : h = s.handleOf i
  · have hf : s.findItem h = (s.slot i).item := by rw [hh]; exact if_pos rfl
    have hi : h.slot = i := by rw [hh]; rfl
    rw [hf, if_pos hh]
    cases hx : (s.slot i).item with
    | none =>
      have hs : { s.slot i with item := none } = s.slot i := by rw [← hx]
      rw [Option.bind_none, hs]
    | some x =>
      dsimp only [Option.bind_some]
      by_cases hp : x.pending - 1 = 0
      · have h1 : ¬ 1 < x.pending := by omega
        rw [if_pos hp, State.slot_setItem, if_pos hi]
        simp [Item.lowered, h1]
      · have h1 : 1 < x.pending := by omega
        rw [if_neg hp, State.slot_setItem, if_pos hi]
        simp [Item.lowered, h1]
  · rw [if_neg hh]
    split
    · rename_i x hx
      have hi : h.slot ≠ i := by
        rintro rfl
        refine hh ?_
        obtain ⟨gen, slot⟩ := h
        rw [State.handleOf, (State.findItem_eq_some.1 hx).1]
      dsimp only; split
      · rw [State.slot_setItem, if_neg hi]; rfl
      · rw [State.slot_setItem, if_neg hi]
    · rfl

theorem State.lowerPending_queue (h : Handle) :
    (s.lowerPending h).queue = Claims.offers s.queue (lastEntryRecords h (s.findItem h)) := by
  unfold State.lowerPending lastEntryRecords
  cases s.findItem h with
  | none => rfl
  | some x =>
    dsimp only
    by_cases hp : x.pending - 1 = 0
    · have h1 : x.pending ≤ 1 := by omega
      rw [if_pos hp, if_pos h1, hp]; rfl
    · have h1 : ¬ x.pending ≤ 1 := by omega
      rw [if_neg hp, if_neg h1]; rfl

/-- The freeing of an entry changes the free list, the slots and the queue and nothing else. -/
theorem State.freeEntry_frame (e : Entry) :
    s.freeEntry e =
      { s with
        free := insertFree e.number s.free
        slots := (s.freeEntry e).slots
        queue := (s.freeEntry e).queue } := by
  unfold State.freeEntry State.lowerPending; dsimp only; repeat' split
  all_goals rfl

/-! ### Several entries freed, one after another -/

/-- Entries freed in list order (R23). -/
def State.freeEntries (gone : List Entry) : State := gone.foldl (fun s e => s.freeEntry e) s

theorem State.freeEntries_append (gone : List Entry) (e : Entry) :
    s.freeEntries (gone ++ [e]) = (s.freeEntries gone).freeEntry e := by
  rw [State.freeEntries, List.foldl_append]; rfl

theorem State.freeEntries_frame (gone : List Entry) :
    s.freeEntries gone =
      { s with
        free := gone.foldl (fun l e => insertFree e.number l) s.free
        slots := (s.freeEntries gone).slots
        queue := (s.freeEntries gone).queue } := by
  induction gone generalizing s with
  | nil => rfl
  | cons e gone ih =>
    exact (ih (s.freeEntry e)).trans (congrArg
      (fun u : State =>
        { u with
          free := gone.foldl (fun l (x : Entry) => insertFree x.number l) u.free
          slots := (s.freeEntries (e :: gone)).slots
          queue := (s.freeEntries (e :: gone)).queue })
      (s.freeEntry_frame e))

/-- An entry that stands behind others counts for its own item. -/
theorem countP_append_ofItem (gone : List Entry) (e : Entry) (h : Handle) :
    (gone ++ [e]).countP (Entry.ofItem h) = gone.countP (Entry.ofItem h) + if e.ofItem h then 1 else 0 := by
  rw [List.countP_append, List.countP_singleton]

theorem Entry.ofItem_item {e : Entry} {h : Handle} {step : Fin 128} (ho : e.owner = .item h step) (g : Handle) :
    e.ofItem g = decide (h = g) := by
  unfold Entry.ofItem; rw [ho]

theorem Entry.ofItem_host {e : Entry} {tag : Word} (ho : e.owner = .host tag) (g : Handle) :
    e.ofItem g = false := by
  unfold Entry.ofItem; rw [ho]

/-- The slots after several entries are freed (R34, R65). -/
theorem State.freeEntries_slot (gone : List Entry) (i : Fin 64) :
    (s.freeEntries gone).slot i = Claims.slotAfterFreeing s gone i := by
  induction gone using List.reverseRecOn with
  | nil =>
    rw [Claims.slotAfterFreeing_eq, List.countP_nil]
    rcases hs : s.slot i with ⟨gen, _ | x⟩ <;> exact hs
  | append_singleton gone e ih =>
    rw [State.freeEntries_append, Claims.slotAfterFreeing_eq, countP_append_ofItem]
    rw [Claims.slotAfterFreeing_eq] at ih
    unfold State.freeEntry
    cases ho : e.owner with
    | host tag =>
      simp only [Entry.ofItem_host ho, State.freeNumber_slot, ih, Bool.false_eq_true, if_false, Nat.add_zero]
    | item h step =>
      have hhandle : ((s.freeEntries gone).freeNumber e.number).handleOf i = s.handleOf i := by
        rw [State.handleOf, State.freeNumber_slot, ih]; rfl
      dsimp only
      rw [State.lowerPending_slot, hhandle, State.freeNumber_slot, ih, Entry.ofItem_item ho]
      by_cases hh : h = s.handleOf i
      · simp only [hh, if_true, decide_true, Option.bind_assoc, Item.lowered_succ]
      · simp only [hh, if_false, decide_false, Bool.false_eq_true, Nat.add_zero]

/-- A handle after several entries are freed. -/
theorem State.freeEntries_findItem (gone : List Entry) (h : Handle) :
    (s.freeEntries gone).findItem h = (s.findItem h).bind (Item.lowered (gone.countP (Entry.ofItem h))) := by
  unfold State.findItem
  rw [State.freeEntries_slot, Claims.slotAfterFreeing_eq]
  by_cases hg : (s.slot h.slot).gen = h.gen
  · have hh : s.handleOf h.slot = h := by rw [State.handleOf, hg]
    simp only [hg, if_true, hh]
  · simp only [hg, if_false, Option.bind_none]

theorem Claims.retirementAt_append (gone : List Entry) (e : Entry) {k : Nat} (hk : k < gone.length) :
    Claims.retirementAt s (gone ++ [e]) k = Claims.retirementAt s gone k := by
  unfold Claims.retirementAt
  rw [List.getElem?_append_left hk, List.take_append_of_le_length (by omega)]

theorem Claims.retirements_append (gone : List Entry) (e : Entry) :
    Claims.retirements s (gone ++ [e]) =
      Claims.retirements s gone ++ Claims.retirementAt s (gone ++ [e]) gone.length := by
  unfold Claims.retirements
  rw [List.length_append, List.length_singleton, List.range_succ, List.flatMap_append, List.flatMap_singleton]
  congr 1
  exact List.flatMap_congr fun k hk => Claims.retirementAt_append s gone e (List.mem_range.1 hk)

/-- The record of the last of several entries freed. -/
theorem Claims.retirementAt_last (gone : List Entry) {e : Entry} {h : Handle} {step : Fin 128}
    (ho : e.owner = .item h step) :
    Claims.retirementAt s (gone ++ [e]) gone.length =
      lastEntryRecords h ((s.findItem h).bind (Item.lowered (gone.countP (Entry.ofItem h)))) := by
  have hcount : (gone ++ [e]).countP (Entry.ofItem h) = gone.countP (Entry.ofItem h) + 1 := by
    rw [countP_append_ofItem, Entry.ofItem_item ho]; simp
  have htake : (gone ++ [e]).take (gone.length + 1) = gone ++ [e] := List.take_of_length_le (by simp)
  unfold Claims.retirementAt
  rw [List.getElem?_concat_length]
  simp only [ho, htake, hcount]
  cases s.findItem h with
  | none => rfl
  | some x => exact (lastEntryRecords_lowered h x _).symm

/-- The records of several entries freed (R65). -/
theorem State.freeEntries_queue (gone : List Entry) :
    (s.freeEntries gone).queue = Claims.offers s.queue (Claims.retirements s gone) := by
  induction gone using List.reverseRecOn with
  | nil => rfl
  | append_singleton gone e ih =>
    rw [State.freeEntries_append, Claims.retirements_append, offers_append, ← ih]
    unfold State.freeEntry
    cases ho : e.owner with
    | host tag =>
      unfold Claims.retirementAt
      simp only [List.getElem?_concat_length, ho, offers_nil, State.freeNumber_queue]
    | item h step =>
      dsimp only
      rw [State.lowerPending_queue, Claims.retirementAt_last s gone ho, ← State.freeEntries_findItem]
      rfl

theorem insertFree_foldl_length (gone : List Entry) (l : List Nat) :
    (gone.foldl (fun l e => insertFree e.number l) l).length = l.length + gone.length := by
  induction gone generalizing l with
  | nil => rfl
  | cons e gone ih => rw [List.foldl_cons, ih, insertFree_length, List.length_cons]; omega

/-! ### The same slots give the same outcome -/

theorem Claims.slotAfterFreeing_congr {s t : State} (h : t.slots = s.slots) (gone : List Entry) (i : Fin 64) :
    Claims.slotAfterFreeing t gone i = Claims.slotAfterFreeing s gone i := by
  simp only [Claims.slotAfterFreeing_eq, State.handleOf, State.slot_congr h]

theorem Claims.retirements_congr {s t : State} (h : t.slots = s.slots) (gone : List Entry) :
    Claims.retirements t gone = Claims.retirements s gone := by
  have hat : Claims.retirementAt t gone = Claims.retirementAt s gone := by
    funext k
    unfold Claims.retirementAt
    simp only [State.findItem_congr h]
  rw [Claims.retirements, hat, Claims.retirements]

end Sys2Proof.Machine
end

section
/-!
A change of position on a part that owes no event: the advance, and the backward change with what expires and what is
kept ahead (R9, R23, R98, R119, R184).
-/
namespace Sys2Proof.Machine

variable {s : State} {enc : Enc}

/-! ### Half the number circle ahead (R1) -/

/-- An entry expires exactly when it is due half the circle ahead of the position that the axis leaves (R23). -/
theorem Entry.expires_eq (p : Pos) (e : Entry) : e.expires p = decide (e.due = p + 2147483648) := by
  refine decide_eq_decide.2 ⟨fun h => ?_, fun h => ?_⟩
  · unfold lead forwardDistance distanceBehind Config.halfCircle at h
    split at h
    · omega
    · bv_omega
  · have hr : reached p e.due = false := by rw [not_reached_iff, h]; bv_omega
    unfold lead forwardDistance Config.halfCircle
    rw [hr, h]
    simp only [Bool.false_eq_true, if_false]
    bv_omega

/-- An end that stands half the circle ahead is moved back by one with its axis; no other is (R98, R119, R184). -/
theorem keepAhead_eq (p q : Pos) :
    keepAhead (p - 1) q = if q = p + 2147483648 then p + 2147483648 - 1 else q := by
  unfold keepAhead forwardDistance Config.halfCircle
  by_cases h : q = p + 2147483648
  · have hd : (q - (p - 1)).toNat = 2147483648 + 1 := by rw [h]; bv_omega
    rw [if_pos hd, if_pos h, h]
  · have hd : (q - (p - 1)).toNat ≠ 2147483648 + 1 := by bv_omega
    rw [if_neg hd, if_neg h]

theorem Detector.backward_eq (ax : Axis) (p : Pos) (d : Detector) :
    d.backward ax (p - 1) =
      if d.state = .lockout ∧ d.cfg.lockAxis = ax ∧ d.lockoutEnd = p + 2147483648
      then { d with lockoutEnd := p + 2147483648 - 1 } else d := by
  unfold Detector.backward
  rw [keepAhead_eq]
  by_cases hd : d.state = .lockout ∧ d.cfg.lockAxis = ax
  · by_cases he : d.lockoutEnd = p + 2147483648
    · rw [if_pos hd, if_pos he, if_pos ⟨hd.1, hd.2, he⟩]
    · rw [if_pos hd, if_neg he, if_neg fun h => he h.2.2]
  · rw [if_neg hd, if_neg fun h => hd ⟨h.1, h.2.1⟩]

theorem Line.backward_eq (enc : Enc) (p : Pos) (l : Line) :
    l.backward enc (p - 1) =
      match l.state with
      | .active u =>
        if u.measure = .distance enc ∧ u.endPos = p + 2147483648
        then { l with state := .active { u with endPos := p + 2147483648 - 1 } } else l
      | _ => l := by
  obtain ⟨st, cfg, mon, slot, mismatch, sampleTime, sense, fault⟩ := l
  unfold Line.backward
  cases st with
  | active u =>
    simp only [keepAhead_eq]
    by_cases hm : u.measure = .distance enc
    · by_cases he : u.endPos = p + 2147483648
      · rw [if_pos hm, if_pos he, if_pos ⟨hm, he⟩]
      · rw [if_pos hm, if_neg he, if_neg fun h => he h.2]
    · rw [if_neg hm, if_neg fun h => hm h.1]
  | disabled | idle | recovery | faulted => rfl

theorem Parser.backward_eq (ax : Axis) (p : Pos) (x : Parser) :
    x.backward ax (p - 1) =
      match x.state with
      | .fenced r =>
        if r.fields.cond = .axisReached ∧ r.fields.axis = .one ax ∧ r.fields.position = p + 2147483648
        then { x with state := .fenced { r with fields := { r.fields with position := p + 2147483648 - 1 } } }
        else x
      | _ => x := by
  obtain ⟨st, code, index⟩ := x
  unfold Parser.backward
  cases st with
  | fenced r =>
    simp only [keepAhead_eq]
    by_cases hr : r.fields.cond = .axisReached ∧ r.fields.axis = .one ax
    · by_cases he : r.fields.position = p + 2147483648
      · rw [if_pos hr, if_pos he, if_pos ⟨hr.1, hr.2, he⟩]
      · rw [if_pos hr, if_neg he, if_neg fun h => he h.2.2]
    · rw [if_neg hr, if_neg fun h => hr ⟨h.1, h.2.1⟩]
  | stopped | running | halted => rfl

/-! ### A write of an axis that leaves its position keeps the part quiet -/

theorem State.setEncAxis_pos_eq {c : EncAxis} (hc : c.pos = (s.encAxis enc).pos) (ax : Axis) :
    (s.setEncAxis enc c).pos ax = s.pos ax := by
  cases enc <;> cases ax <;> first | rfl | exact hc

theorem State.fenceHolds_congr {s t : State} (hpos : ∀ ax, t.pos ax = s.pos ax)
    (hlist : ∀ ax, t.list ax = s.list ax) (hslots : t.slots = s.slots) (hlines : t.lines = s.lines)
    (f : FenceFields) : t.fenceHolds f = s.fenceHolds f := by
  have hempty : t.listsEmpty = s.listsEmpty :=
    congrArg₂ and (congrArg₂ and (congrArg List.isEmpty (hlist .t)) (congrArg List.isEmpty (hlist .e1)))
      (congrArg List.isEmpty (hlist .e2))
  unfold State.fenceHolds State.itemsInUse
  simp only [hpos, hlist, hslots, hempty, State.line_congr hlines]

/-- Quietness depends on the positions, the lists, the detectors, the lines and the parser (R4). -/
theorem State.Quiet.congr {s t : State} (h : s.Quiet) (hpos : ∀ ax, t.pos ax = s.pos ax)
    (hlist : ∀ ax, t.list ax = s.list ax) (hslots : t.slots = s.slots) (hdets : t.dets = s.dets)
    (hlines : t.lines = s.lines) (hparser : t.parser = s.parser) : t.Quiet := by
  have ht : t.t = s.t := hpos .t
  have hmeasure : ∀ m : Measure, t.measurePos m = s.measurePos m := fun m => by
    cases m with
    | time => exact ht
    | distance k => exact hpos k.axis
  obtain ⟨h1, h2, h3, h4⟩ := h
  refine ⟨fun ax => ?_, fun n => ?_, fun n => ?_, ?_⟩
  · have h := h1 ax
    unfold State.ListQuiet at h ⊢
    rw [hlist ax, hpos ax]; exact h
  · have h := h2 n
    unfold State.DetectorQuiet at h ⊢
    rw [State.det_congr hdets, hpos]; exact h
  · have h := h3 n
    unfold State.LineQuiet at h ⊢
    simp only [State.line_congr hlines, ht, hmeasure]; exact h
  · unfold State.FenceQuiet at h4 ⊢
    simp only [hparser, ht, State.fenceHolds_congr hpos hlist hslots hlines]; exact h4

theorem State.Quiet.setEncAxis (h : s.Quiet) {c : EncAxis} (hc : c.pos = (s.encAxis enc).pos) :
    (s.setEncAxis enc c).Quiet :=
  h.congr (State.setEncAxis_pos_eq hc) (State.setEncAxis_list s enc c) (s.setEncAxis_slots enc c)
    (s.setEncAxis_dets enc c) (s.setEncAxis_lines enc c) (s.setEncAxis_parser enc c)

/-! ### The advance -/

/-- On a quiet part an advance changes the position of its axis and nothing else (R9). -/
theorem State.advance_quiet (h : s.Quiet) {a : EncAxis} (ha : s.encAxis enc = a) :
    s.advance enc = s.setEncAxis enc { a with pos := a.pos + 1 } := by
  unfold State.advance
  simp only [State.settleAxis_quiet h, ha]

end Sys2Proof.Machine
end

section
/-!
The backward change on a part that owes no event, field by field (R9, R23, R34, R43, R65, R98, R119, R184, R200).
-/
namespace Sys2Proof.Machine

/-! ### Expiry -/

section Expiry

variable (u : State) (ax : Axis) (p : Pos)

/-- The entries that a backward change of `ax` from `p` carries past half the circle (R23). -/
def State.expiring : List Entry := (u.list ax).filter fun e => decide (e.due = p + 2147483648)

/-- Expiry frees those entries, one after another, behind the list without them. -/
theorem State.expire_eq :
    u.expire ax p =
      (u.setList ax ((u.list ax).filter fun e => decide (e.due ≠ p + 2147483648))).freeEntries
        (u.expiring ax p) := by
  have hgone : Entry.expires p = fun e => decide (e.due = p + 2147483648) := funext (Entry.expires_eq p)
  have hkept : (fun e => !Entry.expires p e) = fun e : Entry => decide (e.due ≠ p + 2147483648) := by
    funext e; rw [Entry.expires_eq, decide_not]
  rw [State.expire, hkept, hgone]
  rfl

/-- Expiry changes the list, the free list, the slots and the queue and nothing else. -/
theorem State.expire_frame :
    u.expire ax p =
      { u.setList ax ((u.list ax).filter fun e => decide (e.due ≠ p + 2147483648)) with
        free := (u.expiring ax p).foldl (fun l e => insertFree e.number l) u.free
        slots := (u.expire ax p).slots
        queue := (u.expire ax p).queue } := by
  rw [State.expire_eq, State.freeEntries_frame, State.setList_free]

theorem State.expire_slot (i : Fin 64) :
    (u.expire ax p).slot i = Claims.slotAfterFreeing u (u.expiring ax p) i := by
  rw [State.expire_eq, State.freeEntries_slot, Claims.slotAfterFreeing_congr (u.setList_slots ax _)]

theorem State.expire_queue :
    (u.expire ax p).queue = Claims.offers u.queue (Claims.retirements u (u.expiring ax p)) := by
  rw [State.expire_eq, State.freeEntries_queue, Claims.retirements_congr (u.setList_slots ax _),
    State.setList_queue]

/-- Where nothing expires the part is as it was. -/
theorem State.expire_nil (h : u.expiring ax p = []) : u.expire ax p = u := by
  have hkept : ((u.list ax).filter fun e => decide (e.due ≠ p + 2147483648)) = u.list ax := by
    refine List.filter_eq_self.2 fun e he => ?_
    have hne := List.filter_eq_nil_iff.1 h e he
    simpa using hne
  rw [State.expire_eq, h, hkept, State.setList_list]
  rfl

end Expiry

/-! ### The empty part at the end of an event -/

theorem Claims.partEmpty_congr {s t : State} (hslots : t.slots = s.slots)
    (hlist : ∀ ax, t.list ax = s.list ax) : Claims.PartEmpty t ↔ Claims.PartEmpty s := by
  have h1 : t.tList = s.tList := hlist .t
  have h2 : t.e1List = s.e1List := hlist .e1
  have h3 : t.e2List = s.e2List := hlist .e2
  simp only [Claims.PartEmpty, State.slot_congr hslots, h1, h2, h3]

theorem Claims.list_eq_nil_of_partEmpty {s : State} (h : Claims.PartEmpty s) (ax : Axis) : s.list ax = [] := by
  obtain ⟨-, h1, h2, h3⟩ := h
  cases ax
  · exact h1
  · exact h2
  · exact h3

/-- A notice changes the engine state and the queue and nothing else. -/
theorem State.engineNotice_frame (s before : State) :
    s.engineNotice before =
      { s with engine := (s.engineNotice before).engine, queue := (s.engineNotice before).queue } := by
  rcases s.engineNotice_cases before with h | ⟨-, -, h⟩ <;> rw [h]

theorem State.engineNotice_partEmpty (s before : State) :
    Claims.PartEmpty (s.engineNotice before) ↔ Claims.PartEmpty s := by
  refine Claims.partEmpty_congr ?_ fun ax => ?_
  · rw [State.engineNotice_frame]
  · rw [State.engineNotice_frame]; cases ax <;> rfl

/-- A notice that leaves the engine alone: it is not QUIESCING, the part is not empty, or was empty before. -/
theorem State.engineNotice_stays {s before : State}
    (h : s.engine ≠ .quiescing ∨ ¬ Claims.PartEmpty s ∨ Claims.PartEmpty before) : s.engineNotice before = s := by
  refine if_neg fun ⟨hq, he, hb⟩ => ?_
  rcases h with h | h | h
  · exact h hq
  · exact h (s.isEmpty_iff.1 he)
  · exact hb (before.isEmpty_iff.2 h)

/-- A notice of the event that empties a QUIESCING part. -/
theorem State.engineNotice_empties {s before : State} (hq : s.engine = .quiescing) (he : Claims.PartEmpty s)
    (hb : ¬ Claims.PartEmpty before) : s.engineNotice before = s.enterQuiesced :=
  if_pos ⟨hq, s.isEmpty_iff.2 he, fun h => hb (before.isEmpty_iff.1 h)⟩

/-! ### The backward change -/

/-- The blocks that no change of an encoder axis's position touches. -/
structure State.SameApart (s t : State) : Prop where
  time : t.t = s.t
  bank0 : t.bank0 = s.bank0
  bank1 : t.bank1 = s.bank1
  active : t.active = s.active
  fb : t.fb = s.fb
  irq : t.irq = s.irq
  ring : t.ring = s.ring
  bus : t.bus = s.bus
  pending : t.pending = s.pending

theorem State.SameApart.eq {s t : State} (h : s.SameApart t) :
    { t with
      enc1 := s.enc1, enc2 := s.enc2, tList := s.tList, e1List := s.e1List, e2List := s.e2List
      free := s.free, slots := s.slots, queue := s.queue, engine := s.engine, dets := s.dets
      lines := s.lines, parser := s.parser } = s := by
  obtain ⟨h1, h2, h3, h4, h5, h6, h7, h8, h9⟩ := h
  rw [h1, h2, h3, h4, h5, h6, h7, h8, h9]

section Backward

variable (s : State) (enc : Enc) (b : EncAxis) (p : Pos)

/-- The part with axis `enc` gone back from `p` to `b`, and the ends kept ahead: nothing has expired yet. -/
def State.wentBack : State := (s.setEncAxis enc b).keepEndsAhead enc (p - 1)

@[simp] theorem State.wentBack_slots : (s.wentBack enc b p).slots = s.slots := s.setEncAxis_slots enc b
@[simp] theorem State.wentBack_queue : (s.wentBack enc b p).queue = s.queue := s.setEncAxis_queue enc b
@[simp] theorem State.wentBack_free : (s.wentBack enc b p).free = s.free := s.setEncAxis_free enc b
@[simp] theorem State.wentBack_engine : (s.wentBack enc b p).engine = s.engine := s.setEncAxis_engine enc b

@[simp] theorem State.wentBack_list (ax : Axis) : (s.wentBack enc b p).list ax = s.list ax := by
  cases enc <;> cases ax <;> rfl

@[simp] theorem State.wentBack_expiring (ax : Axis) (q : Pos) :
    (s.wentBack enc b p).expiring ax q = s.expiring ax q := by
  rw [State.expiring, State.wentBack_list]; rfl

theorem State.wentBack_det (n : Fin 8) : (s.wentBack enc b p).det n = (s.det n).backward enc.axis (p - 1) := by
  have h : (s.wentBack enc b p).dets = ((s.setEncAxis enc b).mapDets (Detector.backward enc.axis (p - 1))).dets :=
    rfl
  rw [State.det_congr h, State.det_mapDets, State.setEncAxis_det]

theorem State.wentBack_line (n : Fin 16) : (s.wentBack enc b p).line n = (s.line n).backward enc (p - 1) := by
  have h : (s.wentBack enc b p).lines = ((s.setEncAxis enc b).mapLines (Line.backward enc (p - 1))).lines := rfl
  rw [State.line_congr h, State.line_mapLines, State.setEncAxis_line]

theorem State.wentBack_parser : (s.wentBack enc b p).parser = s.parser.backward enc.axis (p - 1) :=
  congrArg (Parser.backward enc.axis (p - 1)) (s.setEncAxis_parser enc b)

theorem State.wentBack_apart : s.SameApart (s.wentBack enc b p) := by
  constructor <;> cases enc <;> rfl

/-- Going back changes the axis, the detectors, the lines and the parser and nothing else. -/
theorem State.wentBack_restored :
    { s.wentBack enc b p with
      enc1 := s.enc1, enc2 := s.enc2, dets := s.dets, lines := s.lines, parser := s.parser } = s := by
  cases enc <;> rfl

/-- The part after a backward change of a quiet part: what has gone back, the expiry, and the notice. -/
def State.afterBackward : State :=
  ((s.wentBack enc b p).expire enc.axis p).engineNotice s

variable {s enc b p}

/-- On a quiet part a backward change is just that. -/
theorem State.backwardChange_quiet (h : s.Quiet) (hp : (s.encAxis enc).pos = p) (hb : b.pos = p - 1) :
    (s.setEncAxis enc { b with pos := p }).backwardChange enc = s.afterBackward enc b p := by
  have hq : (s.setEncAxis enc { b with pos := p }).Quiet := h.setEncAxis hp.symm
  have hback : { b with pos := p - 1 } = b := by rw [← hb]
  have hempty : (s.setEncAxis enc { b with pos := p }).isEmpty = s.isEmpty := by
    rw [Bool.eq_iff_iff, State.isEmpty_iff, State.isEmpty_iff]
    exact Claims.partEmpty_congr (s.setEncAxis_slots enc _) (s.setEncAxis_list enc _)
  rw [State.backwardChange_eq (s.encAxis_setEncAxis enc _), State.settleAxis_quiet hq, State.setEncAxis_setEncAxis,
    hback]
  unfold State.engineNotice State.afterBackward State.engineNotice
  rw [hempty]
  rfl

variable (s enc b p)

theorem State.afterBackward_frame :
    s.afterBackward enc b p =
      { (s.wentBack enc b p).setList enc.axis ((s.list enc.axis).filter fun e => decide (e.due ≠ p + 2147483648)) with
        free := (s.expiring enc.axis p).foldl (fun l e => insertFree e.number l) s.free
        slots := ((s.wentBack enc b p).expire enc.axis p).slots
        queue := (s.afterBackward enc b p).queue
        engine := (s.afterBackward enc b p).engine } := by
  have h := (s.wentBack enc b p).expire_frame enc.axis p
  rw [State.wentBack_list, State.wentBack_expiring, State.wentBack_free] at h
  exact (State.engineNotice_frame _ s).trans (congrArg
    (fun u : State =>
      { u with queue := (s.afterBackward enc b p).queue, engine := (s.afterBackward enc b p).engine }) h)

theorem State.afterBackward_list :
    (s.afterBackward enc b p).list enc.axis =
      (s.list enc.axis).filter fun e => decide (e.due ≠ p + 2147483648) := by
  rw [State.afterBackward_frame]; cases enc <;> rfl

theorem State.afterBackward_list_of_ne {other : Axis} (h : other ≠ enc.axis) :
    (s.afterBackward enc b p).list other = s.list other := by
  have hlist : (s.afterBackward enc b p).list other =
      ((s.wentBack enc b p).setList enc.axis
        ((s.list enc.axis).filter fun e => decide (e.due ≠ p + 2147483648))).list other := by
    rw [State.afterBackward_frame]; cases other <;> rfl
  rw [hlist, State.list_setList_of_ne _ h, State.wentBack_list]

theorem State.afterBackward_free :
    (s.afterBackward enc b p).free = (s.expiring enc.axis p).foldl (fun l e => insertFree e.number l) s.free := by
  rw [State.afterBackward_frame]

theorem State.afterBackward_det (n : Fin 8) :
    (s.afterBackward enc b p).det n = (s.det n).backward enc.axis (p - 1) := by
  have h : (s.afterBackward enc b p).dets = (s.wentBack enc b p).dets := by
    rw [State.afterBackward_frame]; exact State.setList_dets _ _ _
  rw [State.det_congr h, State.wentBack_det]

theorem State.afterBackward_line (n : Fin 16) :
    (s.afterBackward enc b p).line n = (s.line n).backward enc (p - 1) := by
  have h : (s.afterBackward enc b p).lines = (s.wentBack enc b p).lines := by
    rw [State.afterBackward_frame]; exact State.setList_lines _ _ _
  rw [State.line_congr h, State.wentBack_line]

theorem State.afterBackward_parser :
    (s.afterBackward enc b p).parser = s.parser.backward enc.axis (p - 1) := by
  rw [State.afterBackward_frame, ← s.wentBack_parser enc b p]; exact State.setList_parser _ _ _

theorem State.afterBackward_slot (i : Fin 64) :
    (s.afterBackward enc b p).slot i = Claims.slotAfterFreeing s (s.expiring enc.axis p) i := by
  have h : (s.afterBackward enc b p).slots = ((s.wentBack enc b p).expire enc.axis p).slots := by
    rw [State.afterBackward_frame]
  rw [State.slot_congr h, State.expire_slot, State.wentBack_expiring,
    Claims.slotAfterFreeing_congr (s.wentBack_slots enc b p)]

/-- The queue of the expiry, before the notice. -/
theorem State.wentBack_expire_queue :
    ((s.wentBack enc b p).expire enc.axis p).queue =
      Claims.offers s.queue (Claims.retirements s (s.expiring enc.axis p)) := by
  rw [State.expire_queue, State.wentBack_expiring, State.wentBack_queue,
    Claims.retirements_congr (s.wentBack_slots enc b p)]

theorem State.wentBack_expire_engine : ((s.wentBack enc b p).expire enc.axis p).engine = s.engine := by
  rw [State.expire_frame]
  exact ((s.wentBack enc b p).setList_engine _ _).trans (s.wentBack_engine enc b p)

theorem State.afterBackward_apart : s.SameApart (s.afterBackward enc b p) := by
  obtain ⟨h1, h2, h3, h4, h5, h6, h7, h8, h9⟩ := s.wentBack_apart enc b p
  rw [State.afterBackward_frame]
  constructor <;> simp only [State.setList_t, State.setList_bank0, State.setList_bank1, State.setList_active,
    State.setList_fb, State.setList_irq, State.setList_ring, State.setList_bus, State.setList_pending, h1, h2, h3, h4,
    h5, h6, h7, h8, h9]

variable {s enc b p}

/-- The engine stays as it is, unless it is QUIESCING and the expiry empties the part (R43, R200). -/
theorem State.afterBackward_stays
    (h : s.engine ≠ .quiescing ∨ s.expiring enc.axis p = [] ∨ ¬ Claims.PartEmpty (s.afterBackward enc b p)) :
    s.afterBackward enc b p = (s.wentBack enc b p).expire enc.axis p := by
  refine State.engineNotice_stays ?_
  rw [State.wentBack_expire_engine, ← State.engineNotice_partEmpty _ s]
  rcases h with h | h | h
  · exact .inl h
  · refine .inr ((Classical.em (Claims.PartEmpty s)).symm.imp_left fun hs he => hs ?_)
    rw [State.engineNotice_partEmpty, State.expire_nil _ _ _ ((s.wentBack_expiring enc b p _ _).trans h)] at he
    exact (Claims.partEmpty_congr (s.wentBack_slots enc b p) (s.wentBack_list enc b p)).1 he
  · exact .inr (.inl h)

/-- A QUIESCING engine that the expiry leaves with an empty part enters QUIESCED (R43, R200). -/
theorem State.afterBackward_empties (hq : s.engine = .quiescing) (hgone : s.expiring enc.axis p ≠ [])
    (he : Claims.PartEmpty (s.afterBackward enc b p)) :
    s.afterBackward enc b p = ((s.wentBack enc b p).expire enc.axis p).enterQuiesced := by
  refine State.engineNotice_empties (by rw [State.wentBack_expire_engine, hq])
    ((State.engineNotice_partEmpty _ s).1 he) fun hs => hgone ?_
  rw [State.expiring, Claims.list_eq_nil_of_partEmpty hs, List.filter_nil]

/-- Where nothing expires the position's change reaches the axis, the detectors, the lines and the parser alone. -/
theorem State.afterBackward_of_none (h : s.expiring enc.axis p = []) :
    { s.afterBackward enc b p with
      enc1 := s.enc1, enc2 := s.enc2, dets := s.dets, lines := s.lines, parser := s.parser } = s := by
  rw [State.afterBackward_stays (.inr (.inl h)),
    State.expire_nil _ _ _ ((s.wentBack_expiring enc b p _ _).trans h), State.wentBack_restored]

end Backward

/-- Settles O41: on a quiet part an advance changes its axis, and a backward change is `State.afterBackward`. -/
theorem positionChangesOnAQuietPart : Obligations.PositionChangesOnAQuietPart := by
  intro s enc ph hquiet a b half gone told
  have hmoved := s.quadTransition_moved enc ph
  have hcases := State.quadTransition_cases (s := s) (enc := enc) rfl ph
  refine ⟨fun hadv => ?_, fun hback => ?_⟩
  · have hne : a.pos + 1 ≠ a.pos - 1 := by bv_omega
    rcases hcases with ⟨hp, -⟩ | ⟨hp, h⟩ | ⟨hp, -⟩
    · exact absurd (hadv.symm.trans hp) (pos_add_one_ne _)
    · have hq : (s.setEncAxis enc { b with pos := a.pos }).Quiet := hquiet.setEncAxis rfl
      rw [State.advance_quiet hq (s.encAxis_setEncAxis enc _), State.setEncAxis_setEncAxis, ← hp] at h
      exact congrArg Host.Outcome.next h
    · exact absurd (hadv.symm.trans hp) hne
  · have hne : a.pos - 1 ≠ a.pos + 1 := by bv_omega
    have ht : s.quadTransition enc ph = s.afterBackward enc b a.pos := by
      rcases hcases with ⟨hp, -⟩ | ⟨hp, -⟩ | ⟨-, h⟩
      · exact absurd (hback.symm.trans hp) (pos_sub_one_ne _)
      · exact absurd (hback.symm.trans hp) hne
      · rw [h]; exact State.backwardChange_quiet hquiet rfl hback
    rw [ht] at hmoved
    refine ⟨s.afterBackward enc b a.pos, congrArg Host.Outcome.next ht, hmoved.own, hmoved.others,
      s.afterBackward_list enc b a.pos, fun _ h => s.afterBackward_list_of_ne enc b a.pos h,
      s.afterBackward_free enc b a.pos, ?freeCount, s.afterBackward_slot enc b a.pos, fun hstay => ?stays,
      fun hq hgone he => ?empties, fun n => ?det, fun n => ?line, ?parser,
      (s.afterBackward_apart enc b a.pos).eq, fun hnone => ?unchanged⟩
    case freeCount =>
      rw [State.freeCount, State.afterBackward_free, insertFree_foldl_length]; rfl
    case stays =>
      rw [State.afterBackward_stays hstay]
      exact ⟨s.wentBack_expire_engine enc b a.pos, s.wentBack_expire_queue enc b a.pos⟩
    case empties =>
      rw [State.afterBackward_empties hq hgone he, State.enterQuiesced]
      refine ⟨rfl, ?_⟩
      have htime : ((s.wentBack enc b a.pos).expire enc.axis a.pos).t = s.t :=
        ((s.wentBack enc b a.pos).expire_outside enc.axis a.pos).time.trans (s.wentBack_apart enc b a.pos).time
      rw [State.offer_queue, htime, State.wentBack_expire_queue]
      rfl
    case det => exact (s.afterBackward_det enc b a.pos n).trans (Detector.backward_eq _ _ _)
    case line => exact (s.afterBackward_line enc b a.pos n).trans (Line.backward_eq _ _ _)
    case parser => exact (s.afterBackward_parser enc b a.pos).trans (Parser.backward_eq _ _ _)
    case unchanged =>
      exact State.afterBackward_of_none
        (List.filter_eq_nil_iff.2 fun e he h => hnone e he (of_decide_eq_true h))

end Sys2Proof.Machine
end

section
/-!
Insertion by lead (R22), positions as numbers (R1, R21), and what a release pass leaves: nothing due (R24, R33).
-/
namespace Sys2Proof.Machine

/-! ### Insertion and positions (R1, R21, R22) -/

/-- In a list ordered by lead the inserted entry stands between the smaller or equal leads and the greater. -/
theorem insertByLead_eq_filter {p : Pos} (e : Entry) {l : List Entry}
    (h : l.Pairwise fun a b => lead p a.due ≤ lead p b.due) :
    insertByLead p e l =
      (l.filter fun x => decide (lead p x.due ≤ lead p e.due)) ++
        e :: (l.filter fun x => decide (lead p e.due < lead p x.due)) := by
  induction l with
  | nil => rfl
  | cons x xs ih =>
    obtain ⟨hx, hxs⟩ := List.pairwise_cons.1 h
    unfold insertByLead
    by_cases hle : lead p x.due ≤ lead p e.due
    · have hgt : ¬ lead p e.due < lead p x.due := by omega
      simp [hle, hgt, ih hxs]
    · have hgt : ∀ y ∈ x :: xs, lead p e.due < lead p y.due := fun y hy => by
        rcases List.mem_cons.1 hy with rfl | hy
        · omega
        · have := hx y hy; omega
      have hnone : ((x :: xs).filter fun y => decide (lead p y.due ≤ lead p e.due)) = [] :=
        List.filter_eq_nil_iff.2 fun y hy => by have := hgt y hy; simp; omega
      have hall : ((x :: xs).filter fun y => decide (lead p e.due < lead p y.due)) = x :: xs :=
        List.filter_eq_self.2 fun y hy => decide_eq_true (hgt y hy)
      rw [if_neg hle, hnone, hall, List.nil_append]

/-- The distance from one position to another, as numbers (R1). -/
theorem sub_toNat_eq_mod (p q : Pos) : (p - q).toNat = (p.toNat + 4294967296 - q.toNat) % 4294967296 := by
  bv_omega

/-- Settles O46: insertion by `insertByLead_eq_filter`, and reach and lead as numbers. -/
theorem insertionIsByLead : Obligations.InsertionIsByLead := by
  refine ⟨fun p e l h => insertByLead_eq_filter e h, fun p q => ⟨?_, fun hr => ?_, fun hr => ?_⟩⟩
  · rw [reached_iff, sub_toNat_eq_mod]
  · have hpos := (lead_pos_iff p q).2 hr
    have hle := (lead_bounds p q).2
    refine ⟨?_, by omega, hle⟩
    simp only [lead, hr, forwardDistance, sub_toNat_eq_mod, Bool.false_eq_true, if_false]
  · have hle := (lead_nonpos_iff p q).2 hr
    have hlow := (lead_bounds p q).1
    refine ⟨?_, by omega, hle⟩
    simp only [lead, hr, distanceBehind, sub_toNat_eq_mod, if_true]

/-! ### The release pass as a recursion (R24, R33) -/

/-- A list owes no release, or its head is reached. -/
theorem State.listQuiet_or_head_reached (s : State) (ax : Axis) :
    s.ListQuiet ax ∨ ∃ e rest, s.list ax = e :: rest ∧ reached (s.pos ax) e.due = true := by
  unfold State.ListQuiet
  cases hl : s.list ax with
  | nil => exact .inl trivial
  | cons e rest =>
    cases hr : reached (s.pos ax) e.due with
    | false => exact .inl hr
    | true => exact .inr ⟨e, rest, rfl, hr⟩

/-- A pass ends on a list that owes no release; before that it is one release and then the pass that follows. -/
theorem State.releasePass_induct {ax : Axis} {P : State → State → Prop}
    (quiet : ∀ s : State, s.ListQuiet ax → P s s)
    (release : ∀ (s u : State) (e : Entry) (rest : List Entry), s.list ax = e :: rest →
      reached (s.pos ax) e.due = true → P ((s.setList ax rest).release ax e) u → P s u)
    (s : State) : P s (s.releasePass ax) := by
  generalize hn : passBound (s.list ax) = n
  induction n using Nat.strongRecOn generalizing s with
  | ind n ih =>
    rcases s.listQuiet_or_head_reached ax with hq | ⟨e, rest, hl, hr⟩
    · rw [State.releasePass_quiet hq]; exact quiet s hq
    · have hless := State.passBound_release hl
      rw [State.releasePass_cons hl hr]
      exact release s _ e rest hl hr (ih _ (by omega) _ rfl)

/-- A pass leaves its list owing no release. -/
theorem State.releasePass_listQuiet (s : State) (ax : Axis) : (s.releasePass ax).ListQuiet ax :=
  State.releasePass_induct (P := fun _ t => t.ListQuiet ax) (fun _ h => h) (fun _ _ _ _ _ _ h => h) s

/-- The list of an axis is ordered by lead (R21). -/
def State.InLeadOrder (s : State) (ax : Axis) : Prop :=
  (s.list ax).Pairwise fun a b => lead (s.pos ax) a.due ≤ lead (s.pos ax) b.due

/-- In an ordered list that owes no release nothing is reached (R21). -/
theorem State.InLeadOrder.unreached {s : State} {ax : Axis} (h : s.InLeadOrder ax) (hq : s.ListQuiet ax) :
    ∀ e ∈ s.list ax, reached (s.pos ax) e.due = false := by
  unfold State.InLeadOrder at h
  unfold State.ListQuiet at hq
  cases hl : s.list ax with
  | nil => exact fun _ h => absurd h List.not_mem_nil
  | cons x xs =>
    simp only [hl] at hq h
    obtain ⟨hx, -⟩ := List.pairwise_cons.1 h
    have hpos := (lead_pos_iff _ _).2 hq
    intro e he
    rcases List.mem_cons.1 he with rfl | he
    · exact hq
    · have := hx e he
      exact (lead_pos_iff _ _).1 (by omega)

/-! ### The positions and the lists under a release (R32, R34) -/

theorem State.SameFixed.pos_eq {s t : State} (h : s.SameFixed t) (ax : Axis) : t.pos ax = s.pos ax :=
  State.pos_congr h.time h.enc1 h.enc2 ax

theorem State.release_pos (s : State) (ax : Axis) (e : Entry) (k : Axis) : (s.release ax e).pos k = s.pos k :=
  (s.release_outside ax e).toSameFixed.pos_eq k

theorem State.releasePass_pos (s : State) (ax k : Axis) : (s.releasePass ax).pos k = s.pos k :=
  (s.releasePass_outside ax).toSameFixed.pos_eq k

/-- The list after one release of its head: the rest, or the rest with the entry at its next grid point (R32, R34). -/
theorem State.setList_release_list (s : State) (ax : Axis) (e : Entry) (rest : List Entry) :
    ((s.setList ax rest).release ax e).list ax =
      if e.repeats = 0 then rest else insertByLead (s.pos ax) e.again rest := by
  have hpos : (((s.setList ax rest).actOn ax e).tellLate ax e).pos ax = s.pos ax :=
    (((State.actOn_outside _ ax e).trans (State.tellLate_outside _ ax e)).toSameFixed.pos_eq ax).trans
      (s.setList_pos ax rest ax)
  rw [State.release_list, State.list_setList, hpos]

/-- A release touches the list of its own axis alone. -/
theorem State.release_list_of_ne (s : State) {ax other : Axis} (h : other ≠ ax) (e : Entry) :
    (s.release ax e).list other = s.list other := by
  unfold State.release; dsimp only; split
  · rw [State.freeEntry_list, State.tellLate_list, State.actOn_list]
  · rw [State.insert, State.list_setList_of_ne _ h, State.tellLate_list, State.actOn_list]

theorem State.releasePass_list_of_ne (s : State) {ax other : Axis} (h : other ≠ ax) :
    (s.releasePass ax).list other = s.list other :=
  State.releasePass_induct (P := fun s t => t.list other = s.list other) (fun _ _ => rfl)
    (fun s u e rest _ _ hu => by rw [hu, State.release_list_of_ne _ h, State.list_setList_of_ne _ h]) s

/-- A release of the head keeps the list ordered by lead (R21, R22). -/
theorem State.InLeadOrder.release {s : State} {ax : Axis} (h : s.InLeadOrder ax) {e : Entry} {rest : List Entry}
    (hl : s.list ax = e :: rest) : ((s.setList ax rest).release ax e).InLeadOrder ax := by
  unfold State.InLeadOrder at h ⊢
  rw [hl] at h
  rw [State.release_pos, State.setList_pos, State.setList_release_list]
  split
  · exact (List.pairwise_cons.1 h).2
  · exact insertByLead_pairwise (List.pairwise_cons.1 h).2

theorem State.InLeadOrder.releasePass {s : State} {ax : Axis} (h : s.InLeadOrder ax) :
    (s.releasePass ax).InLeadOrder ax :=
  State.releasePass_induct (P := fun s t => s.InLeadOrder ax → t.InLeadOrder ax) (fun _ _ h => h)
    (fun _ _ _ _ hl _ hu h => hu (h.release hl)) s h

/-- After a pass over an ordered list nothing in it is reached (R21, R24). -/
theorem State.InLeadOrder.releasePass_unreached {s : State} {ax : Axis} (h : s.InLeadOrder ax) :
    ∀ e ∈ (s.releasePass ax).list ax, reached (s.pos ax) e.due = false := by
  have hall := h.releasePass.unreached (s.releasePass_listQuiet ax)
  rwa [s.releasePass_pos ax ax] at hall

/-! ### The pass as an event (R24, R43, R200) -/

theorem State.engineNotice_list (s before : State) (k : Axis) : (s.engineNotice before).list k = s.list k := by
  rw [State.engineNotice_frame]; cases k <;> rfl

theorem State.passEvent_list (s : State) (ax k : Axis) : (s.passEvent ax).list k = (s.releasePass ax).list k :=
  State.engineNotice_list _ s k

/-- Settles O44: the pass ends quiet and keeps its list ordered; the frames give the rest. -/
theorem passReleasesEverythingDue : Obligations.PassReleasesEverythingDue := by
  intro s ax h
  have hout := s.passEvent_outside ax
  have hfix := hout.toSameFixed
  have hs : s.InLeadOrder ax := h
  refine ⟨s.passEvent ax, rfl, ?_, ?_, fun other ho => ?_, hfix.time, hfix.enc1, hfix.enc2, hfix.bank0, hfix.bank1,
    hfix.active, s.passEvent_dets ax, hout.ring, hout.parser, hfix.irq, hfix.fb, hfix.bus⟩
  · rw [State.passEvent_list, hfix.pos_eq ax]
    exact hs.releasePass_unreached
  · have ho := hs.releasePass
    rwa [State.InLeadOrder, State.releasePass_pos, ← State.passEvent_list, ← hfix.pos_eq ax] at ho
  · rw [State.passEvent_list, State.releasePass_list_of_ne s ho]

end Sys2Proof.Machine
end

section
/-!
The schedule's view of the part: the positions, the lists and the free list; and the events that leave it as it is.
-/
namespace Sys2Proof.Machine

/-- The positions of the axes, their lists and the free list. -/
@[ext] structure ScheduleView where
  pos : Axis → Pos
  list : Axis → List Entry
  free : List Nat

/-- What the Schedule is about in a state of the part (chapter 2). -/
def State.schedule (s : State) : ScheduleView := { pos := s.pos, list := s.list, free := s.free }

/-- The view with an axis that stands at another position. -/
def ScheduleView.moveTo (v : ScheduleView) (ax : Axis) (p : Pos) : ScheduleView :=
  { v with pos := Function.update v.pos ax p }

section Reads

variable {s t : State} (h : t.schedule = s.schedule)

include h

theorem State.pos_of_schedule (ax : Axis) : t.pos ax = s.pos ax := congrArg (fun v => v.pos ax) h

theorem State.list_of_schedule (ax : Axis) : t.list ax = s.list ax := congrArg (fun v => v.list ax) h

theorem State.free_of_schedule : t.free = s.free := congrArg ScheduleView.free h

end Reads

variable (s : State)

/-! ### Updates -/

@[simp] theorem State.setItem_schedule (i : Fin 64) (x : Option Item) :
    (s.setItem i x).schedule = s.schedule := rfl
@[simp] theorem State.setSlot_schedule (i : Fin 64) (x : Slot) : (s.setSlot i x).schedule = s.schedule := rfl
@[simp] theorem State.setDet_schedule (n : Fin 8) (d : Detector) : (s.setDet n d).schedule = s.schedule := rfl
@[simp] theorem State.setLine_schedule (n : Fin 16) (l : Line) : (s.setLine n l).schedule = s.schedule := rfl
@[simp] theorem State.offer_schedule (r : Report) : (s.offer r).schedule = s.schedule := rfl
@[simp] theorem State.passPacket_schedule (n : Nat) : (s.passPacket n).schedule = s.schedule := rfl
@[simp] theorem State.halt_schedule (code : HaltCode) : (s.halt code).schedule = s.schedule := rfl

@[simp] theorem State.setStaging_schedule (b : Bank) : (s.setStaging b).schedule = s.schedule := by
  unfold State.setStaging
  cases s.active <;> rfl

theorem State.setEncAxis_schedule (enc : Enc) (a : EncAxis) :
    (s.setEncAxis enc a).schedule = s.schedule.moveTo enc.axis a.pos := by
  ext1
  · funext k; cases enc <;> cases k <;> rfl
  · cases enc <;> rfl
  · cases enc <;> rfl

/-- A write of an axis that leaves its position. -/
theorem State.setEncAxis_schedule_of_pos {s : State} {enc : Enc} {a : EncAxis} (h : a.pos = (s.encAxis enc).pos) :
    (s.setEncAxis enc a).schedule = s.schedule := by
  have hpos : (s.encAxis enc).pos = s.pos enc.axis := by cases enc <;> rfl
  rw [State.setEncAxis_schedule, h, hpos]
  exact ScheduleView.ext (Function.update_eq_self enc.axis s.pos) rfl rfl

theorem State.setList_schedule_congr {s t : State} (h : t.schedule = s.schedule) (ax : Axis) (l : List Entry) :
    (t.setList ax l).schedule = (s.setList ax l).schedule := by
  ext1
  · funext k; exact (t.setList_pos ax l k).trans ((State.pos_of_schedule h k).trans (s.setList_pos ax l k).symm)
  · funext k
    by_cases hk : k = ax
    · subst hk; exact (t.list_setList k l).trans (s.list_setList k l).symm
    · exact (t.list_setList_of_ne hk l).trans ((State.list_of_schedule h k).trans (s.list_setList_of_ne hk l).symm)
  · exact (t.setList_free ax l).trans ((State.free_of_schedule h).trans (s.setList_free ax l).symm)

theorem State.insert_schedule_congr {s t : State} (h : t.schedule = s.schedule) (ax : Axis) (e : Entry) :
    (t.insert ax e).schedule = (s.insert ax e).schedule := by
  unfold State.insert
  rw [State.pos_of_schedule h, State.list_of_schedule h]
  exact State.setList_schedule_congr h ax _

theorem State.freeNumber_schedule_congr {s t : State} (h : t.schedule = s.schedule) (n : Nat) :
    (t.freeNumber n).schedule = (s.freeNumber n).schedule :=
  congrArg (fun v : ScheduleView => { v with free := insertFree n v.free }) h

/-! ### Items and requests -/

@[simp] theorem State.request_schedule (n : Fin 16) (q : FiringRequest) :
    (s.request n q).1.schedule = s.schedule := by
  rw [State.request_eq]; rfl

@[simp] theorem State.tally_schedule (h : Handle) (a : Answer) : (s.tally h a).schedule = s.schedule := by
  unfold State.tally; split <;> rfl

@[simp] theorem State.applyDefault_schedule (h : Handle) (i : Fin 128) (ax : Axis) (p : Pos) :
    (s.applyDefault h i ax p).schedule = s.schedule := by
  unfold State.applyDefault; repeat' split
  all_goals rfl

@[simp] theorem State.markLate_schedule (h : Handle) : (s.markLate h).schedule = s.schedule := by
  unfold State.markLate; split <;> rfl

@[simp] theorem State.lowerPending_schedule (h : Handle) : (s.lowerPending h).schedule = s.schedule := by
  unfold State.lowerPending; dsimp only; repeat' split
  all_goals rfl

@[simp] theorem State.engineNotice_schedule (before : State) : (s.engineNotice before).schedule = s.schedule := by
  rw [State.engineNotice_frame]; rfl

@[simp] theorem State.actOn_schedule (ax : Axis) (e : Entry) : (s.actOn ax e).schedule = s.schedule := by
  unfold State.actOn; dsimp only; repeat' split
  all_goals simp

@[simp] theorem State.tellLate_schedule (ax : Axis) (e : Entry) : (s.tellLate ax e).schedule = s.schedule := by
  unfold State.tellLate; repeat' split
  all_goals simp

/-- A freed entry's number joins the free list; the item's part of the freeing does not reach the Schedule. -/
theorem State.freeEntry_schedule (e : Entry) : (s.freeEntry e).schedule = (s.freeNumber e.number).schedule := by
  unfold State.freeEntry; dsimp only; split
  · exact State.lowerPending_schedule _ _
  · rfl

/-- What a release makes of the Schedule: the entry's number is free, or the entry stands at its next grid point
(R32, R34). -/
theorem State.release_schedule (ax : Axis) (e : Entry) :
    (s.release ax e).schedule =
      if e.repeats = 0 then (s.freeNumber e.number).schedule else (s.insert ax e.again).schedule := by
  have hacted : ((s.actOn ax e).tellLate ax e).schedule = s.schedule := by simp
  unfold State.release; dsimp only; split
  · rw [State.freeEntry_schedule, State.freeNumber_schedule_congr hacted]
  · exact State.insert_schedule_congr hacted ax _

@[simp] theorem State.verdict_schedule (h : Handle) (v : Verdict) (tag : Word) :
    (s.verdict h v tag).schedule = s.schedule := by
  unfold State.verdict; repeat' split
  all_goals rfl

/-! ### Lines -/

@[simp] theorem State.endPulse_schedule (n : Fin 16) (u : Pulse) (r : EndReason) :
    (s.endPulse n u r).schedule = s.schedule := by
  rw [State.endPulse_eq]; rfl

@[simp] theorem State.offerFireDone_schedule (n : Fin 16) (u : Pulse) (r : EndReason) :
    (s.offerFireDone n u r).schedule = s.schedule := by
  rw [State.offerFireDone_eq]; rfl

@[simp] theorem State.offerSlotDrop_schedule (n : Fin 16) (r : DropReason) :
    (s.offerSlotDrop n r).schedule = s.schedule := by
  rw [State.offerSlotDrop_eq]; rfl

@[simp] theorem State.pulseEnd_schedule (n : Fin 16) : (s.pulseEnd n).schedule = s.schedule := by
  unfold State.pulseEnd; repeat' split
  all_goals simp

@[simp] theorem State.maxOnExpiry_schedule (n : Fin 16) : (s.maxOnExpiry n).schedule = s.schedule := by
  unfold State.maxOnExpiry; repeat' split
  all_goals simp

@[simp] theorem State.recoveryEnd_schedule (n : Fin 16) : (s.recoveryEnd n).schedule = s.schedule := by
  unfold State.recoveryEnd; dsimp only; repeat' split
  all_goals rfl

@[simp] theorem State.shutdown_schedule (n : Fin 16) : (s.shutdown n).schedule = s.schedule := by
  unfold State.shutdown; split <;> simp

@[simp] theorem State.monitorSample_schedule (n : Fin 16) : (s.monitorSample n).schedule = s.schedule := by
  unfold State.monitorSample State.takeSample State.raiseFault; dsimp only; repeat' split
  all_goals simp

@[simp] theorem State.armLine_schedule (n : Fin 16) : (s.armLine n).schedule = s.schedule := by
  unfold State.armLine; dsimp only; split <;> rfl

@[simp] theorem State.disarmLine_schedule (n : Fin 16) : (s.disarmLine n).schedule = s.schedule := by
  unfold State.disarmLine; dsimp only; split <;> simp

@[simp] theorem State.clearLineFault_schedule (n : Fin 16) : (s.clearLineFault n).schedule = s.schedule := by
  unfold State.clearLineFault; dsimp only; split <;> rfl

@[simp] theorem State.forceLineOff_schedule (n : Fin 16) : (s.forceLineOff n).schedule = s.schedule := by
  unfold State.forceLineOff; split <;> simp

@[simp] theorem State.configLine_schedule (n : Fin 16) (cfg : LineConfig) (mon : MonitorConfig) :
    (s.configLine n cfg mon).schedule = s.schedule := by
  unfold State.configLine; dsimp only; split <;> rfl

theorem State.eachLine_schedule {f : State → Fin 16 → State} (h : ∀ (t : State) n, (f t n).schedule = t.schedule) :
    (s.eachLine f).schedule = s.schedule :=
  List.foldlRecOn (motive := fun t => t.schedule = s.schedule) _ _ rfl fun t ht n _ => (h t n).trans ht

theorem State.forLines_schedule (mask : Word) {act : State → Fin 16 → State}
    (h : ∀ (t : State) n, (act t n).schedule = t.schedule) : (s.forLines mask act).schedule = s.schedule :=
  s.eachLine_schedule (f := fun s n => if mask.getLsbD n.val then act s n else s) fun t n => by
    split
    exacts [h t n, rfl]

/-! ### Detectors -/

@[simp] theorem State.lockoutEnd_schedule (n : Fin 8) : (s.lockoutEnd n).schedule = s.schedule := by
  unfold State.lockoutEnd; dsimp only; split <;> rfl

@[simp] theorem State.configDetector_schedule (n : Fin 8) (cfg : DetectorConfig) :
    (s.configDetector n cfg).schedule = s.schedule := by
  unfold State.configDetector; dsimp only; split <;> rfl

@[simp] theorem State.enableDetector_schedule (n : Fin 8) : (s.enableDetector n).schedule = s.schedule := by
  unfold State.enableDetector; dsimp only; split <;> rfl

@[simp] theorem State.disableDetector_schedule (n : Fin 8) : (s.disableDetector n).schedule = s.schedule := rfl

theorem State.eachDetector_schedule {f : State → Fin 8 → State}
    (h : ∀ (t : State) n, (f t n).schedule = t.schedule) : (s.eachDetector f).schedule = s.schedule :=
  List.foldlRecOn (motive := fun t => t.schedule = s.schedule) _ _ rfl fun t ht n _ => (h t n).trans ht

theorem State.forDetectors_schedule (mask : ByteField) {act : State → Fin 8 → State}
    (h : ∀ (t : State) n, (act t n).schedule = t.schedule) : (s.forDetectors mask act).schedule = s.schedule :=
  s.eachDetector_schedule (f := fun s n => if mask.getLsbD n.val then act s n else s) fun t n => by
    split
    exacts [h t n, rfl]

/-! ### The parser, the registers and Engine Control -/

@[simp] theorem State.fenceNotice_schedule : s.fenceNotice.schedule = s.schedule := by
  unfold State.fenceNotice; repeat' split
  all_goals rfl

@[simp] theorem State.fenceTimeout_schedule : s.fenceTimeout.schedule = s.schedule := by
  unfold State.fenceTimeout; repeat' split
  all_goals rfl

@[simp] theorem State.takeFence_schedule (f : FenceFields) (len : Nat) :
    (s.takeFence f len).schedule = s.schedule := by
  unfold State.takeFence; split <;> rfl

@[simp] theorem State.takeHeader_schedule : s.takeHeader.schedule = s.schedule := by
  unfold State.takeHeader; dsimp only; repeat' split
  all_goals rfl

@[simp] theorem State.switchBank_schedule : s.switchBank.schedule = s.schedule := by
  unfold State.switchBank; split <;> rfl

@[simp] theorem State.configAxis_schedule (enc : Enc) (c : AxisSettings) :
    (s.configAxis enc c).schedule = s.schedule := by
  unfold State.configAxis; dsimp only; repeat' split
  · rfl
  · exact State.setEncAxis_schedule_of_pos rfl
  · rfl

@[simp] theorem State.startParser_schedule : s.startParser.schedule = s.schedule := by
  unfold State.startParser; split <;> rfl

@[simp] theorem State.stopParser_schedule : s.stopParser.schedule = s.schedule := by
  unfold State.stopParser; split <;> rfl

@[simp] theorem State.quiesce_schedule : s.quiesce.schedule = s.schedule := by
  unfold State.quiesce; repeat' split
  all_goals rfl

@[simp] theorem State.ringData_schedule (w : Word) : (s.ringData w).schedule = s.schedule := by
  unfold State.ringData; split <;> rfl

@[simp] theorem State.resync_schedule (w : Word) : (s.resync w).schedule = s.schedule := by
  unfold State.resync; split <;> rfl

@[simp] theorem State.irqStatusWrite_schedule (w : Word) : (s.irqStatusWrite w).schedule = s.schedule := by
  unfold State.irqStatusWrite; split <;> rfl

@[simp] theorem State.watermarkWrite_schedule (w : Word) : (s.watermarkWrite w).schedule = s.schedule := by
  unfold State.watermarkWrite; split <;> rfl

@[simp] theorem State.spaceLevelWrite_schedule (w : Word) : (s.spaceLevelWrite w).schedule = s.schedule := by
  unfold State.spaceLevelWrite; split <;> rfl

@[simp] theorem State.posSelectWrite_schedule (w : Word) : (s.posSelectWrite w).schedule = s.schedule := by
  unfold State.posSelectWrite; split <;> rfl

@[simp] theorem State.lineSelectWrite_schedule (w : Word) : (s.lineSelectWrite w).schedule = s.schedule := by
  unfold State.lineSelectWrite; split <;> rfl

/-- A bus write leaves the Schedule alone, or is the write of ENGINE_RESET to CMD (R197). -/
theorem State.busWrite_schedule (offset : BitVec 5) (w : Word) :
    (s.busWrite offset w).schedule = s.schedule ∨ s.busWrite offset w = s.engineReset := by
  unfold State.busWrite; split
  case h_1 =>
    split
    · rename_i c _
      cases c with
      | engineReset => exact .inr rfl
      | startParser => exact .inl s.startParser_schedule
      | stopParser => exact .inl s.stopParser_schedule
      | quiesce => exact .inl s.quiesce_schedule
      | ringReset | resume => exact .inl rfl
    · exact .inl rfl
  case h_2 => exact .inl (s.ringData_schedule w)
  case h_5 => exact .inl (s.resync_schedule w)
  case h_6 => exact .inl (s.spaceLevelWrite_schedule w)
  case h_7 => exact .inl (s.irqStatusWrite_schedule w)
  case h_9 => exact .inl (s.watermarkWrite_schedule w)
  case h_11 => exact .inl (s.posSelectWrite_schedule w)
  case h_12 => exact .inl (s.lineSelectWrite_schedule w)
  all_goals exact .inl rfl

/-- A packet whose owner leaves the Schedule alone. -/
theorem State.onPacket_schedule (kind : PacketKind) {take : Nat → Packet → State}
    (h : ∀ len p, (take len p).schedule = s.schedule) : (s.onPacket kind take).schedule = s.schedule :=
  State.onPacket_induct (P := fun t => t.schedule = s.schedule) rfl rfl fun len p _ => h len p

end Sys2Proof.Machine
end

section
/-!
What a command makes of the Schedule, said once: the operations on the lists and the free list, and the changes that
the positions make (R22 to R24, R36 to R45).
-/
namespace Sys2Proof.Machine

/-! ### The operations that leave the positions -/

/-- One operation on the lists and the free list. -/
inductive State.ScheduleOp (s : State) : State → Prop
  | same {t : State} (h : t.schedule = s.schedule) : ScheduleOp s t
  | pass (ax : Axis) : ScheduleOp s (s.releasePass ax)
  | admission (q : AdmissionRequest) (i : Fin 64) : ScheduleOp s (s.admitTo q i)
  | fire (f : FireFields) : ScheduleOp s (s.fireNow f)
  | remove (p : Entry → Bool) : ScheduleOp s (s.removeEntries p)

/-- Any number of operations, one after another. -/
def State.ScheduleOps : State → State → Prop := Relation.ReflTransGen State.ScheduleOp

/-- What every operation keeps, any number of them keep. -/
theorem State.ScheduleOps.keeps {P : State → Prop} (hop : ∀ s t : State, P s → s.ScheduleOp t → P t)
    {s t : State} (h : s.ScheduleOps t) (hs : P s) : P t := by
  induction h with
  | refl => exact hs
  | tail _ hlast ih => exact hop _ _ ih hlast

theorem State.ScheduleOps.of_op {s t : State} (h : s.ScheduleOp t) : s.ScheduleOps t :=
  Relation.ReflTransGen.single h

theorem State.ScheduleOps.of_schedule {s t : State} (h : t.schedule = s.schedule) : s.ScheduleOps t :=
  .of_op (.same h)

theorem State.ScheduleOps.refl (s : State) : s.ScheduleOps s := Relation.ReflTransGen.refl

theorem State.ScheduleOps.trans {s t u : State} (h : s.ScheduleOps t) (k : t.ScheduleOps u) : s.ScheduleOps u :=
  Relation.ReflTransGen.trans h k

theorem State.ScheduleOps.then_schedule {s t u : State} (h : s.ScheduleOps t) (k : u.schedule = t.schedule) :
    s.ScheduleOps u := h.trans (.of_schedule k)

variable (s : State)

/-! ### Events as operations -/

theorem State.passEvent_ops (ax : Axis) : s.ScheduleOps (s.passEvent ax) :=
  (State.ScheduleOps.of_op (.pass ax)).then_schedule (State.engineNotice_schedule _ s)

theorem State.admitItem_ops (q : AdmissionRequest) : s.ScheduleOps (s.admitItem q) := by
  unfold State.admitItem; split
  · exact .of_op (.admission q _)
  · exact .refl s

theorem State.injectItem_ops (r : Fin 16) (backdate tag : Word) : s.ScheduleOps (s.injectItem r backdate tag) := by
  unfold State.injectItem; split
  · exact .of_schedule (s.offer_schedule _)
  · exact s.admitItem_ops _

theorem State.detect_ops (n : Fin 8) (c : Capture) : s.ScheduleOps (s.detect n c) := by
  unfold State.detect State.detectionEvent; dsimp only; split
  · exact .of_schedule rfl
  · exact (s.admitItem_ops _).then_schedule (State.setDet_schedule _ _ _)

theorem State.qualificationComplete_ops (n : Fin 8) : s.ScheduleOps (s.qualificationComplete n) := by
  unfold State.qualificationComplete; dsimp only; split
  · split
    · exact s.detect_ops _ _
    · exact .refl s
  · exact .refl s

theorem State.startQualifying_ops (n : Fin 8) : s.ScheduleOps (s.startQualifying n) := by
  have hset := State.ScheduleOps.of_schedule
    (s.setDet_schedule n { s.det n with state := .qualifying s.capture, count := 0 })
  unfold State.startQualifying; dsimp only; split
  · exact hset.trans (State.detect_ops _ _ _)
  · exact hset

theorem State.detectorEdge_ops (n : Fin 8) (level : Bool) : s.ScheduleOps (s.detectorEdge n level) := by
  have hlevel := State.ScheduleOps.of_schedule (s.setDet_schedule n { s.det n with lastLevel := level })
  unfold State.detectorEdge; dsimp only; repeat' split
  · exact .refl s
  · exact hlevel
  · exact hlevel
  · exact hlevel.trans (State.startQualifying_ops _ n)
  · exact hlevel
  · exact hlevel
  · exact hlevel.then_schedule (State.setDet_schedule _ n _)

theorem State.scheduleFire_ops (f : FireFields) : s.ScheduleOps (s.scheduleFire f) := by
  unfold State.scheduleFire; split
  · exact .of_schedule (s.offer_schedule _)
  · exact .of_op (.fire f)

theorem State.cancelItem_ops (h : Handle) : s.ScheduleOps (s.cancelItem h) := by
  unfold State.cancelItem; split
  · exact .of_schedule (s.offer_schedule _)
  · exact (State.ScheduleOps.of_op (.remove (Entry.ofItem h))).then_schedule (State.engineNotice_schedule _ s)

theorem State.cancelTag_ops (tag : Word) : s.ScheduleOps (s.cancelTag tag) :=
  (State.ScheduleOps.of_op (.remove (Entry.ofTag tag))).then_schedule (State.engineNotice_schedule _ s)

/-- A packet whose owner makes operations on the Schedule. -/
theorem State.onPacket_ops (kind : PacketKind) {take : Nat → Packet → State}
    (h : ∀ len p, s.ScheduleOps (take len p)) : s.ScheduleOps (s.onPacket kind take) :=
  State.onPacket_induct (P := s.ScheduleOps) (.refl s) (.of_schedule (s.halt_schedule _)) fun len p _ => h len p

/-! ### The events owed (R4) -/

/-- What is owed before a tick is the pass of T and then operations (R4, R24). -/
theorem State.settleAll_ops : (s.releasePass .t).ScheduleOps s.settleAll := by
  have hnotice : (s.releasePass .t).ScheduleOps (s.passEvent .t) :=
    .of_schedule (State.engineNotice_schedule _ s)
  have hpasses := (hnotice.trans (State.passEvent_ops _ .e1)).trans (State.passEvent_ops _ .e2)
  unfold State.settleAll
  extract_lets s1 s2 s3 s4 s5 s6 s7
  have hqualify : s1.ScheduleOps s2 :=
    List.foldlRecOn _ _ (State.ScheduleOps.refl s1) fun t ht n _ => ht.trans (t.qualificationComplete_ops n)
  have hsame : s7.fenceNotice.fenceTimeout.schedule = s2.schedule := by
    rw [State.fenceTimeout_schedule, State.fenceNotice_schedule,
      State.eachLine_schedule _ State.monitorSample_schedule, State.eachLine_schedule _ State.recoveryEnd_schedule,
      State.eachLine_schedule _ State.maxOnExpiry_schedule, State.eachLine_schedule _ State.pulseEnd_schedule,
      State.eachDetector_schedule _ State.lockoutEnd_schedule]
  exact (hpasses.trans hqualify).then_schedule hsame

/-- What is owed before an encoder axis moves is the pass of its list, as far as the Schedule goes (R4, R24). -/
theorem State.settleAxis_schedule (enc : Enc) : (s.settleAxis enc).schedule = (s.releasePass enc.axis).schedule := by
  have hlock : ∀ t : State, (t.eachDetector (State.lockoutEndOn enc.axis)).schedule = t.schedule := fun t =>
    t.eachDetector_schedule fun u n => by
      unfold State.lockoutEndOn; split
      exacts [u.lockoutEnd_schedule n, rfl]
  have hpulse : ∀ t : State, (t.eachLine (State.pulseEndOn enc)).schedule = t.schedule := fun t =>
    t.eachLine_schedule fun u n => by
      unfold State.pulseEndOn; repeat' split
      exacts [u.pulseEnd_schedule n, rfl, rfl]
  have hfence : ∀ t : State, (if t.parser.fencedOn enc.axis then t.fenceNotice else t).schedule = t.schedule :=
    fun t => by
      split
      exacts [t.fenceNotice_schedule, rfl]
  unfold State.settleAxis; dsimp only
  rw [hfence, hpulse, hlock]
  exact State.engineNotice_schedule _ s

/-! ### All that a command makes of the Schedule -/

/-- What a command makes of the positions, the lists and the free list. -/
inductive State.ScheduleChange (s : State) : State → Prop
  /-- The positions stand. -/
  | ops {t : State} (h : s.ScheduleOps t) : ScheduleChange s t
  /-- An advance: the pass owed for the last one comes first (R4, R23). -/
  | advance (ax : Axis) {r u t : State} (before : s.ScheduleOps r) (owed : (r.releasePass ax).ScheduleOps u)
      (moved : t.schedule = u.schedule.moveTo ax (u.pos ax + 1)) : ScheduleChange s t
  /-- A backward change, with the expiry of what it carries past half the circle (R23). -/
  | back (ax : Axis) {u v t : State} (before : s.ScheduleOps u)
      (moved : v.schedule = u.schedule.moveTo ax (u.pos ax - 1))
      (expired : t.schedule = (v.expire ax (u.pos ax)).schedule) : ScheduleChange s t
  /-- A preset of an axis without entries (R13, R15). -/
  | preset (ax : Axis) (p : Pos) {t : State} (unused : s.list ax = [])
      (moved : t.schedule = s.schedule.moveTo ax p) : ScheduleChange s t
  /-- A reset (R44, R45). -/
  | clear {t : State} (lists : ∀ ax : Axis, t.list ax = []) (free : t.free = List.range Config.entryCount) :
      ScheduleChange s t

theorem State.ScheduleChange.of_schedule {s t : State} (h : t.schedule = s.schedule) : s.ScheduleChange t :=
  .ops (.of_schedule h)

theorem State.ScheduleChange.then_schedule {s t u : State} (h : s.ScheduleChange t) (k : u.schedule = t.schedule) :
    s.ScheduleChange u := by
  cases h with
  | ops h => exact .ops (h.then_schedule k)
  | advance ax before owed moved => exact .advance ax before owed (k.trans moved)
  | back ax before moved expired => exact .back ax before moved (k.trans expired)
  | preset ax p unused moved => exact .preset ax p unused (k.trans moved)
  | clear lists free =>
    exact .clear (fun ax => (State.list_of_schedule k ax).trans (lists ax)) ((State.free_of_schedule k).trans free)

theorem State.ScheduleChange.of_same {s r t : State} (k : r.schedule = s.schedule) (h : r.ScheduleChange t) :
    s.ScheduleChange t := by
  have hr := State.ScheduleOps.of_schedule k
  cases h with
  | ops h => exact .ops (hr.trans h)
  | advance ax before owed moved => exact .advance ax (hr.trans before) owed moved
  | back ax before moved expired => exact .back ax (hr.trans before) moved expired
  | preset ax p unused moved =>
    exact .preset ax p ((State.list_of_schedule k ax).symm.trans unused) (moved.trans (by rw [k]))
  | clear lists free => exact .clear lists free

theorem State.tick_scheduleChange (fb : Word) : s.ScheduleChange (s.tick fb) := by
  refine .advance .t (.refl s) s.settleAll_ops ?_
  unfold State.tick
  generalize s.settleAll = u
  ext1
  · funext k; cases k <;> rfl
  · rfl
  · rfl

theorem Enc.pos_encAxis (s : State) (enc : Enc) : (s.encAxis enc).pos = s.pos enc.axis := by cases enc <;> rfl

theorem State.advance_scheduleChange (enc : Enc) : s.ScheduleChange (s.advance enc) := by
  refine .advance enc.axis (.refl s) (.of_schedule (s.settleAxis_schedule enc)) ?_
  rw [← Enc.pos_encAxis]
  exact State.setEncAxis_schedule _ enc _

theorem State.keepEndsAhead_schedule (enc : Enc) (p : Pos) : (s.keepEndsAhead enc p).schedule = s.schedule := rfl

theorem State.backwardChange_scheduleChange (enc : Enc) : s.ScheduleChange (s.backwardChange enc) := by
  have hsettled : s.ScheduleOps (s.settleAxis enc) :=
    (State.ScheduleOps.of_op (.pass enc.axis)).then_schedule (s.settleAxis_schedule enc)
  have hpos : (s.settleAxis enc).pos enc.axis = (s.encAxis enc).pos := by
    rw [← Enc.pos_encAxis, (s.settleAxis_fixed enc).encAxis]
  have hmoved : (((s.settleAxis enc).setEncAxis enc { s.encAxis enc with pos := (s.encAxis enc).pos - 1
      }).keepEndsAhead enc ((s.encAxis enc).pos - 1)).schedule =
        (s.settleAxis enc).schedule.moveTo enc.axis ((s.settleAxis enc).pos enc.axis - 1) := by
    rw [hpos, State.keepEndsAhead_schedule, State.setEncAxis_schedule]
  rw [State.backwardChange_eq rfl]
  exact .back enc.axis hsettled hmoved (by rw [hpos, State.engineNotice_schedule])

theorem State.offerAll_schedule (rs : List Report) : (s.offerAll rs).schedule = s.schedule := rfl

theorem State.quadTransition_scheduleChange (enc : Enc) (ph : Phases) :
    s.ScheduleChange (s.quadTransition enc ph) := by
  have hstands : ∀ a : EncAxis, a.pos = (s.encAxis enc).pos → (s.setEncAxis enc a).schedule = s.schedule :=
    fun _ h => State.setEncAxis_schedule_of_pos h
  rcases State.quadTransition_cases (s := s) (enc := enc) rfl ph with ⟨hp, h⟩ | ⟨-, h⟩ | ⟨-, h⟩ <;> rw [h]
  · exact .of_schedule ((State.offerAll_schedule _ _).trans (hstands _ hp))
  · refine .of_same ?_ (State.advance_scheduleChange _ enc)
    exact hstands _ rfl
  · refine .of_same ?_ (State.backwardChange_scheduleChange _ enc)
    exact hstands _ rfl

theorem State.presetAxis_scheduleChange (enc : Enc) (p : Pos) : s.ScheduleChange (s.presetAxis enc p) := by
  unfold State.presetAxis; dsimp only; split
  · exact .of_schedule (s.offer_schedule _)
  · rename_i hfree
    have hlist : s.list enc.axis = [] := by
      by_contra hne
      exact hfree ((State.inUse_iff s enc).2 (.inl hne))
    exact .preset enc.axis p hlist (s.setEncAxis_schedule enc _)

theorem State.engineReset_scheduleChange : s.ScheduleChange s.engineReset :=
  .clear (fun ax => by cases ax <;> rfl) s.free_engineReset

/-- Every command makes one of these changes. -/
theorem exec_scheduleChange {c : Instr} {s t : State} (h : exec c s = .next t) : s.ScheduleChange t := by
  have hpass := fun {u : State} (len : Nat) (hu : u.schedule = s.schedule) => (u.passPacket_schedule len).trans hu
  have hops := fun {u : State} (len : Nat) (hu : s.ScheduleOps u) => hu.then_schedule (u.passPacket_schedule len)
  cases c
  case tick fb =>
    obtain rfl : s.tick fb = t := Host.Outcome.next.inj h
    exact s.tick_scheduleChange fb
  all_goals cases h
  case hardwareReset p q di fb => exact .clear (fun ax => by cases ax <;> rfl) (s.free_hardwareReset p q di fb)
  case engineReset => exact s.engineReset_scheduleChange
  case quadTransition enc ph => exact s.quadTransition_scheduleChange enc ph
  case scheduleReleasePass ax => exact .ops (s.passEvent_ops ax)
  case detectorEdge n level => exact .ops (s.detectorEdge_ops n level)
  case qualificationComplete n => exact .ops (s.qualificationComplete_ops n)
  case lockoutEnd n => exact .of_schedule (s.lockoutEnd_schedule n)
  case pulseEnd n => exact .of_schedule (s.pulseEnd_schedule n)
  case maxOnExpiry n => exact .of_schedule (s.maxOnExpiry_schedule n)
  case recoveryEnd n => exact .of_schedule (s.recoveryEnd_schedule n)
  case monitorSample n => exact .of_schedule (s.monitorSample_schedule n)
  case fenceNotice => exact .of_schedule s.fenceNotice_schedule
  case fenceTimeout => exact .of_schedule s.fenceTimeout_schedule
  case parserTakeHeader => exact .of_schedule s.takeHeader_schedule
  case presetAxis =>
    refine State.onPacket_induct (P := s.ScheduleChange) (.of_schedule rfl) (.of_schedule (s.halt_schedule _))
      fun len p _ => ?_
    split
    exacts [(s.presetAxis_scheduleChange _ _).then_schedule (State.passPacket_schedule _ len), .of_schedule rfl]
  case injectItem =>
    exact .ops <| s.onPacket_ops _ fun len p => by
      split
      exacts [hops len (s.injectItem_ops _ _ _), .refl s]
  case scheduleFire =>
    exact .ops <| s.onPacket_ops _ fun len p => by
      split
      exacts [hops len (s.scheduleFire_ops _), .refl s]
  case cancelItem =>
    exact .ops <| s.onPacket_ops _ fun len p => by
      split
      exacts [hops len (s.cancelItem_ops _), .refl s]
  case cancelTag =>
    exact .ops <| s.onPacket_ops _ fun len p => by
      split
      exacts [hops len (s.cancelTag_ops _), .refl s]
  case arm =>
    exact .of_schedule <| s.onPacket_schedule _ fun len p => by
      split
      exacts [hpass len (s.forLines_schedule _ State.armLine_schedule), rfl]
  case disarm =>
    exact .of_schedule <| s.onPacket_schedule _ fun len p => by
      split
      exacts [hpass len (s.forLines_schedule _ State.disarmLine_schedule), rfl]
  case clearFault =>
    exact .of_schedule <| s.onPacket_schedule _ fun len p => by
      split
      exacts [hpass len (s.forLines_schedule _ State.clearLineFault_schedule), rfl]
  case forceOff =>
    exact .of_schedule <| s.onPacket_schedule _ fun len p => by
      split
      exacts [hpass len (s.forLines_schedule _ State.forceLineOff_schedule), rfl]
  case enable =>
    exact .of_schedule <| s.onPacket_schedule _ fun len p => by
      split
      exacts [hpass len (s.forDetectors_schedule _ State.enableDetector_schedule), rfl]
  case disable =>
    exact .of_schedule <| s.onPacket_schedule _ fun len p => by
      split
      exacts [hpass len (s.forDetectors_schedule _ State.disableDetector_schedule), rfl]
  case pad => exact .of_schedule <| s.onPacket_schedule _ fun len _ => s.passPacket_schedule len
  case copyBank => exact .of_schedule <| s.onPacket_schedule _ fun len _ => hpass len (s.setStaging_schedule _)
  case switchBank => exact .of_schedule <| s.onPacket_schedule _ fun len _ => hpass len s.switchBank_schedule
  case fence =>
    exact .of_schedule <| s.onPacket_schedule _ fun len p => by
      split
      exacts [s.takeFence_schedule _ len, rfl]
  case mark =>
    exact .of_schedule <| s.onPacket_schedule _ fun len p => by split <;> rfl
  case configAxis =>
    exact .of_schedule <| s.onPacket_schedule _ fun len p => by
      split
      exacts [hpass len (s.configAxis_schedule _ _), rfl]
  case configDetector =>
    exact .of_schedule <| s.onPacket_schedule _ fun len p => by
      split
      exacts [hpass len (s.configDetector_schedule _ _), rfl]
  case configLine =>
    exact .of_schedule <| s.onPacket_schedule _ fun len p => by
      split
      exacts [hpass len (s.configLine_schedule _ _ _), rfl]
  case writeRecipe =>
    exact .of_schedule <| s.onPacket_schedule _ fun len p => by
      split
      exacts [hpass len (s.setStaging_schedule _), rfl]
  case writeSteps =>
    exact .of_schedule <| s.onPacket_schedule _ fun len p => by
      split
      exacts [hpass len (s.setStaging_schedule _), rfl]
  case verdict =>
    exact .of_schedule <| s.onPacket_schedule _ fun len p => by
      split
      exacts [hpass len (s.verdict_schedule _ _ _), rfl]
  case startParser => exact .of_schedule s.startParser_schedule
  case stopParser => exact .of_schedule s.stopParser_schedule
  case quiesce => exact .of_schedule s.quiesce_schedule
  case ringData w => exact .of_schedule (s.ringData_schedule w)
  case resync w => exact .of_schedule (s.resync_schedule w)
  case irqStatusWrite w => exact .of_schedule (s.irqStatusWrite_schedule w)
  case reportWatermarkWrite w => exact .of_schedule (s.watermarkWrite_schedule w)
  case ringSpaceLevelWrite w => exact .of_schedule (s.spaceLevelWrite_schedule w)
  case posSelectWrite w => exact .of_schedule (s.posSelectWrite_schedule w)
  case lineSelectWrite w => exact .of_schedule (s.lineSelectWrite_schedule w)
  case registerWriteIgnored o w =>
    rcases s.busWrite_schedule o w with k | k
    · exact .of_schedule k
    · rw [k]; exact s.engineReset_scheduleChange
  case ringReset | resume | ringPublish | ringWithdraw | reportPop | irqEnableWrite | posLowRead =>
    exact .of_schedule rfl

end Sys2Proof.Machine
end

section
/-!
The entry pool (R18): where an entry's number stands, inside an operation as well as between operations.
-/
namespace Sys2Proof.Machine

open scoped List

/-- Each of the 256 numbers stands in `hand`, on the free list or in exactly one axis list, and the free list stands
lowest number first. An operation holds in hand what it has taken and not yet put back. -/
structure State.PoolWith (hand : List Nat) (s : State) : Prop where
  perm : (hand ++ (s.free ++ s.listedNumbers)).Perm (List.range Config.entryCount)
  sorted : s.free.Pairwise (· < ·)

theorem State.poolWith_nil {s : State} : s.PoolWith [] ↔ s.PoolSound :=
  ⟨fun h => ⟨h.perm, h.sorted⟩, fun h => ⟨h.1, h.2⟩⟩

variable {s t : State} {hand : List Nat}

/-! ### Taking and putting back -/

theorem State.listedNumbers_congr (h : ∀ ax, t.list ax = s.list ax) : t.listedNumbers = s.listedNumbers :=
  congrArg₂ (· ++ ·) (congrArg₂ (fun a b => a.map Entry.number ++ b.map Entry.number) (h .t) (h .e1))
    (congrArg (List.map Entry.number) (h .e2))

theorem State.PoolWith.congr (hs : s.PoolWith hand) (hlist : ∀ ax, t.list ax = s.list ax) (hfree : t.free = s.free) :
    t.PoolWith hand :=
  ⟨by rw [hfree, State.listedNumbers_congr hlist]; exact hs.perm, by rw [hfree]; exact hs.sorted⟩

theorem State.PoolWith.of_schedule (hs : s.PoolWith hand) (h : t.schedule = s.schedule) : t.PoolWith hand :=
  hs.congr (State.list_of_schedule h) (State.free_of_schedule h)

/-- The numbers of one list beside those of the other two. -/
theorem State.listedNumbers_setList_perm (s : State) (ax : Axis) :
    ∃ others : List Nat, ∀ l : List Entry, (s.setList ax l).listedNumbers.Perm (l.map Entry.number ++ others) := by
  cases ax
  · exact ⟨s.e1List.map Entry.number ++ s.e2List.map Entry.number, fun l => by
      simp [State.listedNumbers, State.setList]⟩
  · exact ⟨s.tList.map Entry.number ++ s.e2List.map Entry.number, fun l => by
      simpa [State.listedNumbers, State.setList] using List.perm_append_comm_assoc _ _ _⟩
  · exact ⟨s.tList.map Entry.number ++ s.e1List.map Entry.number, fun l => List.perm_append_comm⟩

/-- An exchange of numbers between the hand and a list. -/
theorem State.PoolWith.setList (hs : s.PoolWith hand) {ax : Axis} {l : List Entry} {hand' : List Nat}
    (h : (hand' ++ l.map Entry.number).Perm (hand ++ (s.list ax).map Entry.number)) :
    (s.setList ax l).PoolWith hand' := by
  obtain ⟨others, hothers⟩ := s.listedNumbers_setList_perm ax
  have hold := hothers (s.list ax)
  rw [State.setList_list] at hold
  refine ⟨List.Perm.trans ?_ hs.perm, by rw [State.setList_free]; exact hs.sorted⟩
  rw [State.setList_free]
  calc hand' ++ (s.free ++ (s.setList ax l).listedNumbers)
      _ ~ hand' ++ (s.free ++ (l.map Entry.number ++ others)) := ((hothers l).append_left _).append_left _
      _ ~ hand' ++ (l.map Entry.number ++ (s.free ++ others)) := (List.perm_append_comm_assoc _ _ _).append_left _
      _ ~ (hand' ++ l.map Entry.number) ++ (s.free ++ others) := by rw [List.append_assoc]
      _ ~ (hand ++ (s.list ax).map Entry.number) ++ (s.free ++ others) := h.append_right _
      _ ~ hand ++ ((s.list ax).map Entry.number ++ (s.free ++ others)) := by rw [List.append_assoc]
      _ ~ hand ++ (s.free ++ ((s.list ax).map Entry.number ++ others)) :=
        (List.perm_append_comm_assoc _ _ _).append_left _
      _ ~ hand ++ (s.free ++ s.listedNumbers) := (hold.symm.append_left _).append_left _

/-- A number in hand is not on the free list. -/
theorem State.PoolWith.not_mem_free {n : Nat} (hs : s.PoolWith (n :: hand)) : n ∉ s.free := by
  have hnodup : (n :: (hand ++ (s.free ++ s.listedNumbers))).Nodup := hs.perm.nodup_iff.2 List.nodup_range
  intro hn
  exact (List.nodup_cons.1 hnodup).1 (List.mem_append_right _ (List.mem_append_left _ hn))

/-- A number in hand is freed. -/
theorem State.PoolWith.freeNumber {n : Nat} (hs : s.PoolWith (n :: hand)) : (s.freeNumber n).PoolWith hand := by
  have hlisted : (s.freeNumber n).listedNumbers = s.listedNumbers := rfl
  refine ⟨List.Perm.trans ?_ hs.perm, insertFree_pairwise hs.sorted hs.not_mem_free⟩
  rw [State.freeNumber_free, hlisted]
  calc hand ++ (insertFree n s.free ++ s.listedNumbers)
      _ ~ hand ++ (n :: (s.free ++ s.listedNumbers)) := ((insertFree_perm n s.free).append_right _).append_left _
      _ ~ n :: (hand ++ (s.free ++ s.listedNumbers)) := List.perm_middle

/-- The lowest free numbers are taken in hand. -/
theorem State.PoolWith.take (hs : s.PoolWith hand) (k : Nat) :
    ({ s with free := s.free.drop k } : State).PoolWith (s.free.take k ++ hand) := by
  refine ⟨List.Perm.trans ?_ hs.perm, hs.sorted.drop⟩
  calc s.free.take k ++ hand ++ (s.free.drop k ++ s.listedNumbers)
      _ ~ hand ++ s.free.take k ++ (s.free.drop k ++ s.listedNumbers) := List.perm_append_comm.append_right _
      _ ~ hand ++ (s.free ++ s.listedNumbers) := by
        rw [List.append_assoc, ← List.append_assoc (s.free.take k), List.take_append_drop]

/-- An entry in hand is inserted. -/
theorem State.PoolWith.insert {e : Entry} (hs : s.PoolWith (e.number :: hand)) (ax : Axis) :
    (s.insert ax e).PoolWith hand := by
  refine State.PoolWith.setList hs ?_
  calc hand ++ (insertByLead (s.pos ax) e (s.list ax)).map Entry.number
      _ ~ hand ++ (e :: s.list ax).map Entry.number := ((insertByLead_perm _ e _).map _).append_left _
      _ ~ e.number :: hand ++ (s.list ax).map Entry.number := List.perm_middle

theorem State.PoolWith.insertEntries {ax : Axis} {es : List Entry} (hs : s.PoolWith (es.map Entry.number ++ hand)) :
    (es.foldl (fun s e => s.insert ax e) s).PoolWith hand := by
  induction es generalizing s with
  | nil => exact hs
  | cons e es ih => exact ih (State.PoolWith.insert hs ax)

theorem State.PoolWith.freeNumbers {es : List Entry} (hs : s.PoolWith (es.map Entry.number ++ hand)) :
    (s.freeNumbers es).PoolWith hand := by
  unfold State.freeNumbers
  induction es generalizing s with
  | nil => exact hs
  | cons e es ih => exact ih (State.PoolWith.freeNumber hs)

/-- The entries of a list that satisfy `p` are taken in hand. -/
theorem State.PoolWith.filterList (hs : s.PoolWith hand) (ax : Axis) (p : Entry → Bool) :
    (s.setList ax ((s.list ax).filter fun e => !p e)).PoolWith (((s.list ax).filter p).map Entry.number ++ hand) := by
  refine hs.setList ?_
  calc ((s.list ax).filter p).map Entry.number ++ hand ++ ((s.list ax).filter fun e => !p e).map Entry.number
      _ ~ hand ++ ((s.list ax).filter p).map Entry.number ++ ((s.list ax).filter fun e => !p e).map Entry.number :=
        List.perm_append_comm.append_right _
      _ ~ hand ++ (s.list ax).map Entry.number := by
        rw [List.append_assoc, ← List.map_append]
        exact ((List.filter_append_perm p (s.list ax)).map _).append_left _

/-! ### The operations -/

/-- A release puts its entry back, on the free list or into the list (R32, R34). -/
theorem State.PoolWith.release {e : Entry} (hs : s.PoolWith (e.number :: hand)) (ax : Axis) :
    (s.release ax e).PoolWith hand := by
  have h := s.release_schedule ax e
  split at h
  · exact hs.freeNumber.of_schedule h
  · exact (State.PoolWith.insert (e := e.again) hs ax).of_schedule h

theorem State.PoolWith.releasePass (hs : s.PoolWith hand) (ax : Axis) : (s.releasePass ax).PoolWith hand :=
  State.releasePass_induct (P := fun s t => s.PoolWith hand → t.PoolWith hand) (fun _ _ h => h)
    (fun s u e rest hl _ hu h => by
      have htaken : (s.setList ax rest).PoolWith (e.number :: hand) := h.setList (by
        rw [hl]; exact List.perm_middle.symm)
      exact hu (htaken.release ax)) s hs

theorem stepIndexes_length (h : RecipeHeader) : (stepIndexes h).length = h.count := by
  simp [stepIndexes]

/-- An admission's entries take the lowest free numbers (R36). -/
theorem State.newEntries_numbers (s : State) (q : AdmissionRequest) (h : Handle) :
    (s.newEntries q h).map Entry.number = s.free.take (s.recipe q.recipe).count := by
  have hnumber : ∀ l : List (Nat × Fin 128), (l.map fun x => stepEntry (s.activeBank.steps[x.2]).step x.1
      (s.recipe q.recipe).axis q.capture h x.2).map Entry.number = l.map Prod.fst := fun l => by
    rw [List.map_map]; rfl
  unfold State.newEntries; dsimp only
  rw [hnumber, List.map_fst_zip (by rw [stepIndexes_length]; exact List.length_take_le _ _)]

theorem State.PoolWith.admitTo (hs : s.PoolWith hand) (q : AdmissionRequest) (i : Fin 64) :
    (s.admitTo q i).PoolWith hand := by
  unfold State.admitTo; extract_lets hd h s1 s2
  have h1 : s1.PoolWith hand := hs.of_schedule (s.setSlot_schedule i _)
  have h2 : s2.PoolWith ((s.newEntries q h).map Entry.number ++ hand) := by
    rw [State.newEntries_numbers]; exact h1.take hd.count
  exact (State.PoolWith.insertEntries h2).releasePass hd.axis

theorem State.PoolWith.fireNow (hs : s.PoolWith hand) (f : FireFields) : (s.fireNow f).PoolWith hand := by
  unfold State.fireNow; split
  · exact hs
  · rename_i n rest hfree
    have h := hs.take 1
    rw [hfree] at h
    exact (State.PoolWith.insert (e := fireEntry f n) h f.axis).releasePass f.axis

/-- Removal as three exchanges and the freeing of what is in hand (R40, R41). -/
theorem State.PoolWith.removeEntries (hs : s.PoolWith hand) (p : Entry → Bool) :
    (s.removeEntries p).PoolWith hand := by
  have h := ((hs.filterList .t p).filterList .e1 p).filterList .e2 p
  refine State.PoolWith.freeNumbers (s := { s with
    tList := s.tList.filter fun e => !p e
    e1List := s.e1List.filter fun e => !p e
    e2List := s.e2List.filter fun e => !p e }) ⟨List.Perm.trans (List.Perm.append_right _ ?_) h.perm, h.sorted⟩
  simp only [List.map_append, List.append_assoc]
  generalize ht : (s.tList.filter p).map Entry.number = gt
  generalize h1 : (s.e1List.filter p).map Entry.number = g1
  generalize h2 : (s.e2List.filter p).map Entry.number = g2
  calc gt ++ (g1 ++ (g2 ++ hand))
      _ ~ g1 ++ (gt ++ (g2 ++ hand)) := List.perm_append_comm_assoc _ _ _
      _ ~ g1 ++ (g2 ++ (gt ++ hand)) := (List.perm_append_comm_assoc _ _ _).append_left _
      _ ~ g2 ++ (g1 ++ (gt ++ hand)) := List.perm_append_comm_assoc _ _ _
      _ = _ := by rw [← ht, ← h1, ← h2]; rfl

theorem State.freeEntries_schedule {s t : State} (h : t.schedule = s.schedule) (es : List Entry) :
    (t.freeEntries es).schedule = (s.freeNumbers es).schedule := by
  induction es generalizing s t with
  | nil => exact h
  | cons e es ih => exact ih ((t.freeEntry_schedule e).trans (State.freeNumber_schedule_congr h e.number))

theorem State.PoolWith.expire (hs : s.PoolWith hand) (ax : Axis) (p : Pos) : (s.expire ax p).PoolWith hand :=
  (State.PoolWith.freeNumbers (hs.filterList ax (Entry.expires p))).of_schedule (State.freeEntries_schedule rfl _)

/-! ### The pool under every command -/

theorem State.ScheduleOp.keeps_pool (hs : s.PoolWith []) (h : s.ScheduleOp t) : t.PoolWith [] := by
  cases h with
  | same h => exact hs.of_schedule h
  | pass ax => exact hs.releasePass ax
  | admission q i => exact hs.admitTo q i
  | fire f => exact hs.fireNow f
  | remove p => exact hs.removeEntries p

theorem State.ScheduleOps.keeps_pool (hs : s.PoolWith []) (h : s.ScheduleOps t) : t.PoolWith [] :=
  h.keeps (fun _ _ => State.ScheduleOp.keeps_pool) hs

/-- A move of an axis touches no number. -/
theorem State.PoolWith.moved {ax : Axis} {p : Pos} (hs : s.PoolWith hand)
    (h : t.schedule = s.schedule.moveTo ax p) : t.PoolWith hand :=
  hs.congr (fun k => congrArg (fun v => v.list k) h) (congrArg ScheduleView.free h)

theorem State.poolWith_of_clear (hlist : ∀ ax : Axis, t.list ax = [])
    (hfree : t.free = List.range Config.entryCount) :
    t.PoolWith [] := by
  have hlisted : t.listedNumbers = [] := by
    have ht : t.tList = [] := hlist .t
    have h1 : t.e1List = [] := hlist .e1
    have h2 : t.e2List = [] := hlist .e2
    simp [State.listedNumbers, ht, h1, h2]
  refine ⟨?_, by rw [hfree]; exact List.pairwise_lt_range⟩
  rw [hfree, hlisted, List.append_nil, List.nil_append]

theorem State.ScheduleChange.keeps_pool (hs : s.PoolWith []) (h : s.ScheduleChange t) : t.PoolWith [] := by
  cases h with
  | ops h => exact h.keeps_pool hs
  | advance ax before owed moved =>
    exact (owed.keeps_pool ((before.keeps_pool hs).releasePass ax)).moved moved
  | back ax before moved expired => exact (((before.keeps_pool hs).moved moved).expire ax _).of_schedule expired
  | preset ax p unused moved => exact hs.moved moved
  | clear lists free => exact State.poolWith_of_clear lists free

/-- Settles O10: every change that a command makes of the Schedule puts back the numbers that it takes. -/
theorem stepKeepsTheEntryPool : Obligations.StepKeepsTheEntryPool := fun s t hs h =>
  State.poolWith_nil.1 (step_keeps (P := State.PoolWith []) (fun _ _ h => ⟨h.perm, h.sorted⟩)
    (fun _ _ _ hs h => (exec_scheduleChange h).keeps_pool hs) s t (State.poolWith_nil.2 hs) h)

end Sys2Proof.Machine
end

section
/-!
The order of the lists (R21 to R23): one axis's list ordered, placed and kept ahead of the axis by a bound.
-/
namespace Sys2Proof.Machine

/-- The list of an axis is ordered by lead and holds entries of its own axis alone. -/
structure State.ListKept (s : State) (ax : Axis) : Prop where
  ordered : s.InLeadOrder ax
  placed : ∀ e ∈ s.list ax, e.axis = ax

/-- And no lead in it is below `k`: 0 at all times, 1 where nothing is due (R21). -/
structure State.ListAhead (s : State) (ax : Axis) (k : Int) : Prop extends s.ListKept ax where
  ahead : ∀ e ∈ s.list ax, k ≤ lead (s.pos ax) e.due

/-- The statement's invariant, axis by axis. -/
theorem State.listAhead_iff {s : State} : (∀ ax, s.ListAhead ax 0) ↔ s.ListsOrdered ∧ s.EntriesPlaced := by
  constructor
  · intro h
    exact ⟨⟨⟨(h .t).ordered, (h .t).ahead⟩, ⟨(h .e1).ordered, (h .e1).ahead⟩, ⟨(h .e2).ordered, (h .e2).ahead⟩⟩,
      (h .t).placed, (h .e1).placed, (h .e2).placed⟩
  · rintro ⟨⟨⟨o0, a0⟩, ⟨o1, a1⟩, ⟨o2, a2⟩⟩, p0, p1, p2⟩ (_ | _ | _)
    · exact ⟨⟨o0, p0⟩, a0⟩
    · exact ⟨⟨o1, p1⟩, a1⟩
    · exact ⟨⟨o2, p2⟩, a2⟩

variable {s t : State} {ax : Axis} {k : Int}

/-! ### The same list at the same position -/

theorem State.ListKept.congr (h : s.ListKept ax) (hpos : t.pos ax = s.pos ax) (hlist : t.list ax = s.list ax) :
    t.ListKept ax :=
  ⟨by rw [State.InLeadOrder, hpos, hlist]; exact h.ordered, by rw [hlist]; exact h.placed⟩

theorem State.ListAhead.congr (h : s.ListAhead ax k) (hpos : t.pos ax = s.pos ax) (hlist : t.list ax = s.list ax) :
    t.ListAhead ax k :=
  ⟨h.toListKept.congr hpos hlist, by rw [hpos, hlist]; exact h.ahead⟩

theorem State.ListAhead.of_schedule (hs : s.ListAhead ax k) (h : t.schedule = s.schedule) : t.ListAhead ax k :=
  hs.congr (State.pos_of_schedule h ax) (State.list_of_schedule h ax)

theorem State.ListAhead.mono {j : Int} (h : s.ListAhead ax k) (hjk : j ≤ k) : s.ListAhead ax j :=
  ⟨h.toListKept, fun e he => hjk.trans (h.ahead e he)⟩

theorem State.listAhead_of_nil (h : s.list ax = []) (k : Int) : s.ListAhead ax k :=
  ⟨⟨by rw [State.InLeadOrder, h]; exact .nil, by rw [h]; simp⟩, by rw [h]; simp⟩

/-! ### The operations on one list -/

/-- Fewer entries of an ordered list are ordered. -/
theorem State.ListKept.sublist {l : List Entry} (h : s.ListKept ax) (hl : l.Sublist (s.list ax)) :
    (s.setList ax l).ListKept ax := by
  refine ⟨?_, ?_⟩
  · rw [State.InLeadOrder, State.list_setList, State.setList_pos]
    exact List.Pairwise.sublist hl h.ordered
  · rw [State.list_setList]
    exact fun e he => h.placed e (hl.subset he)

theorem State.ListAhead.sublist {l : List Entry} (h : s.ListAhead ax k) (hl : l.Sublist (s.list ax)) :
    (s.setList ax l).ListAhead ax k := by
  refine ⟨h.toListKept.sublist hl, ?_⟩
  rw [State.list_setList, State.setList_pos]
  exact fun e he => h.ahead e (hl.subset he)

theorem State.ListKept.insert {e : Entry} (h : s.ListKept ax) (he : e.axis = ax) : (s.insert ax e).ListKept ax := by
  have hlist : (s.insert ax e).list ax = insertByLead (s.pos ax) e (s.list ax) := s.list_setList ax _
  refine ⟨?_, ?_⟩
  · rw [State.InLeadOrder, hlist, State.insert_pos]
    exact insertByLead_pairwise h.ordered
  · rw [hlist]
    intro x hx
    rcases mem_insertByLead.1 hx with rfl | hx
    · exact he
    · exact h.placed x hx

theorem State.insert_list_of_ne {other : Axis} (ho : other ≠ ax) (e : Entry) :
    (s.insert ax e).list other = s.list other := s.list_setList_of_ne ho _

/-- A release of the head leaves a list of the same axis: the entry comes back, if it does, to its own list. -/
theorem State.ListKept.release {e : Entry} {rest : List Entry} (h : s.ListKept ax) (hl : s.list ax = e :: rest) :
    ((s.setList ax rest).release ax e).ListKept ax := by
  have hrest : ∀ x ∈ rest, x.axis = ax := fun x hx => h.placed x (by rw [hl]; exact List.mem_cons_of_mem e hx)
  refine ⟨h.ordered.release hl, ?_⟩
  rw [State.setList_release_list]
  split
  · exact hrest
  · intro x hx
    rcases mem_insertByLead.1 hx with rfl | hx
    · exact h.placed e (by rw [hl]; exact List.mem_cons_self)
    · exact hrest x hx

/-- A pass leaves every lead at 1 or more (R21, R24). -/
theorem State.ListKept.releasePass (h : s.ListKept ax) : (s.releasePass ax).ListAhead ax 1 := by
  have hkept : (s.releasePass ax).ListKept ax :=
    State.releasePass_induct (P := fun s t => s.ListKept ax → t.ListKept ax) (fun _ _ h => h)
      (fun _ _ _ _ hl _ hu h => hu (h.release hl)) s h
  refine ⟨hkept, fun e he => ?_⟩
  have hpos := (lead_pos_iff _ _).2 (hkept.ordered.unreached (s.releasePass_listQuiet ax) e he)
  omega

/-! ### The operations, for the list of any axis -/

/-- A pass keeps the bound of every list, when the bound is not above 1. -/
theorem State.ListAhead.releasePass (h : s.ListAhead ax k) (hk : k ≤ 1) (a : Axis) :
    (s.releasePass a).ListAhead ax k := by
  by_cases ha : ax = a
  · subst ha; exact h.toListKept.releasePass.mono hk
  · exact h.congr (s.releasePass_pos a ax) (s.releasePass_list_of_ne ha)

/-- An insertion and later the pass of that list keep the bound of every list. -/
theorem State.ListAhead.insertEntries_releasePass {a : Axis} {es : List Entry} (h : s.ListAhead ax k) (hk : k ≤ 1)
    (hes : ∀ e ∈ es, e.axis = a) :
    ((es.foldl (fun s e => s.insert a e) s).releasePass a).ListAhead ax k := by
  by_cases ha : ax = a
  · subst ha
    have hkept : (es.foldl (fun s e => s.insert ax e) s).ListKept ax :=
      List.foldlRecOn (motive := fun u : State => u.ListKept ax) _ _ h.toListKept fun _ hu e he =>
        hu.insert (hes e he)
    exact hkept.releasePass.mono hk
  · have hsame : (es.foldl (fun s e => s.insert a e) s).ListAhead ax k :=
      List.foldlRecOn (motive := fun u : State => u.ListAhead ax k) _ _ h fun u hu e _ =>
        hu.congr (u.insert_pos a e ax) (State.insert_list_of_ne ha e)
    exact hsame.releasePass hk a

theorem State.ListAhead.admitTo (h : s.ListAhead ax k) (hk : k ≤ 1) (q : AdmissionRequest) (i : Fin 64) :
    (s.admitTo q i).ListAhead ax k := by
  unfold State.admitTo; extract_lets hd hh s1 s2
  have h2 : s2.ListAhead ax k := h.congr (by cases ax <;> rfl) (by cases ax <;> rfl)
  refine h2.insertEntries_releasePass hk fun e he => ?_
  obtain ⟨x, -, rfl⟩ := List.mem_map.1 he
  rfl

theorem State.ListAhead.fireNow (h : s.ListAhead ax k) (hk : k ≤ 1) (f : FireFields) :
    (s.fireNow f).ListAhead ax k := by
  unfold State.fireNow; split
  · exact h
  · rename_i n rest _
    have htaken : ({ s with free := rest } : State).ListAhead ax k :=
      h.congr (by cases ax <;> rfl) (by cases ax <;> rfl)
    exact htaken.insertEntries_releasePass (es := [fireEntry f n]) hk fun e he => by
      rw [List.mem_singleton.1 he]; rfl

/-! ### Removal and expiry -/

theorem State.freeNumbers_list (s : State) (es : List Entry) (a : Axis) : (s.freeNumbers es).list a = s.list a :=
  List.foldlRecOn (motive := fun u : State => u.list a = s.list a) _ _ rfl fun u hu e _ =>
    (u.freeNumber_list e.number a).trans hu

theorem State.removeEntries_list (s : State) (p : Entry → Bool) (a : Axis) :
    (s.removeEntries p).list a = (s.list a).filter fun e => !p e := by
  unfold State.removeEntries; dsimp only
  rw [State.freeNumbers_list]
  cases a <;> rfl

theorem State.ListAhead.removeEntries (h : s.ListAhead ax k) (p : Entry → Bool) :
    (s.removeEntries p).ListAhead ax k := by
  refine (h.sublist (l := (s.list ax).filter fun e => !p e) List.filter_sublist).congr ?_ ?_
  · rw [State.setList_pos]; exact (s.removeEntries_outside p).toSameFixed.pos_eq ax
  · rw [State.list_setList, State.removeEntries_list]

theorem State.ScheduleOp.keeps_ahead (hk : k ≤ 1) (hs : s.ListAhead ax k) (h : s.ScheduleOp t) :
    t.ListAhead ax k := by
  cases h with
  | same h => exact hs.of_schedule h
  | pass a => exact hs.releasePass hk a
  | admission q i => exact hs.admitTo hk q i
  | fire f => exact hs.fireNow hk f
  | remove p => exact hs.removeEntries p

theorem State.ScheduleOps.keeps_ahead (hk : k ≤ 1) (hs : s.ListAhead ax k) (h : s.ScheduleOps t) :
    t.ListAhead ax k :=
  h.keeps (P := fun u => u.ListAhead ax k) (fun _ _ => State.ScheduleOp.keeps_ahead hk) hs

theorem State.expire_schedule (s : State) (a : Axis) (p : Pos) :
    (s.expire a p).schedule =
      ((s.setList a ((s.list a).filter fun e => !Entry.expires p e)).freeNumbers
        ((s.list a).filter (Entry.expires p))).schedule := State.freeEntries_schedule rfl _

theorem State.expire_pos (s : State) (a : Axis) (p : Pos) (ax : Axis) : (s.expire a p).pos ax = s.pos ax :=
  (s.expire_outside a p).toSameFixed.pos_eq ax

theorem State.expire_list (s : State) (a : Axis) (p : Pos) :
    (s.expire a p).list a = (s.list a).filter fun e => !Entry.expires p e := by
  rw [State.list_of_schedule (s.expire_schedule a p), State.freeNumbers_list, State.list_setList]

theorem State.expire_list_of_ne (s : State) {a other : Axis} (h : other ≠ a) (p : Pos) :
    (s.expire a p).list other = s.list other := by
  rw [State.list_of_schedule (s.expire_schedule a p), State.freeNumbers_list, State.list_setList_of_ne _ h]

/-! ### An axis that moves (R23) -/

/-- The lists when every lead of the axis is shifted by the same amount keep their order. -/
theorem State.ListAhead.shift {d : Int} (h : s.ListAhead ax k) (hsub : (t.list ax).Sublist (s.list ax))
    (hlead : ∀ e ∈ t.list ax, lead (t.pos ax) e.due = lead (s.pos ax) e.due + d) : t.ListAhead ax (k + d) := by
  refine ⟨⟨?_, fun e he => h.placed e (hsub.subset he)⟩, fun e he => ?_⟩
  · have hold : (t.list ax).Pairwise fun a b => lead (s.pos ax) a.due ≤ lead (s.pos ax) b.due :=
      List.Pairwise.sublist hsub h.ordered
    refine List.Pairwise.imp_of_mem (fun ha hb hab => ?_) hold
    rw [hlead _ ha, hlead _ hb]; omega
  · have := h.ahead e (hsub.subset he)
    rw [hlead e he]; omega

/-- An advance lowers every lead by one: from 1 or more to 0 or more (R21, R23). -/
theorem State.ListAhead.advance (h : s.ListAhead ax 1) (hlist : t.list ax = s.list ax)
    (hpos : t.pos ax = s.pos ax + 1) : t.ListAhead ax 0 := by
  refine h.shift (d := -1) (by rw [hlist]) fun e he => ?_
  have hlow := h.ahead e (hlist ▸ he)
  rw [hpos, lead_advance _ _ (by omega)]; omega

/-- A backward change raises every lead by one, when no entry stands half the circle ahead (R23). -/
theorem State.ListAhead.back (h : s.ListAhead ax 0)
    (hlist : t.list ax = (s.list ax).filter fun e => !Entry.expires (s.pos ax) e) (hpos : t.pos ax = s.pos ax - 1) :
    t.ListAhead ax 0 := by
  refine (h.shift (t := t) (d := 1) (by rw [hlist]; exact List.filter_sublist) fun e he => ?_).mono (by omega)
  rw [hlist, List.mem_filter] at he
  have hstays : lead (s.pos ax) e.due ≠ 2147483648 := by
    have hkept : Entry.expires (s.pos ax) e = false := by simpa using he.2
    exact of_decide_eq_false hkept
  rw [hpos, lead_backward _ _ hstays]

section Moved

variable {a : Axis} {p : Pos} (h : t.schedule = s.schedule.moveTo a p)

include h

theorem State.list_of_moved (k : Axis) : t.list k = s.list k := congrArg (fun v => v.list k) h

theorem State.pos_of_moved : t.pos a = p :=
  (congrArg (fun v => v.pos a) h).trans (Function.update_self a p s.pos)

theorem State.pos_of_moved_of_ne {other : Axis} (ho : other ≠ a) : t.pos other = s.pos other :=
  (congrArg (fun v => v.pos other) h).trans (Function.update_of_ne ho p s.pos)

end Moved

/-! ### The lists under every command -/

theorem State.ScheduleChange.keeps_ahead (hs : ∀ ax, s.ListAhead ax 0) (h : s.ScheduleChange t) (ax : Axis) :
    t.ListAhead ax 0 := by
  cases h with
  | ops h => exact h.keeps_ahead (by omega) (hs ax)
  | advance a before owed moved =>
    have hr := fun ax => before.keeps_ahead (by omega) (hs ax)
    by_cases ha : ax = a
    · subst ha
      have hu := owed.keeps_ahead (by omega) (hr ax).toListKept.releasePass
      exact hu.advance (State.list_of_moved moved ax) (State.pos_of_moved moved)
    · have hu := owed.keeps_ahead (by omega) ((hr ax).releasePass (by omega) a)
      exact hu.congr (State.pos_of_moved_of_ne moved ha) (State.list_of_moved moved ax)
  | @back a u v t before moved expired =>
    have hu := before.keeps_ahead (by omega) (hs ax)
    refine State.ListAhead.of_schedule (s := v.expire a (u.pos a)) ?_ expired
    by_cases ha : ax = a
    · subst ha
      refine hu.back ?_ ?_
      · rw [State.expire_list, State.list_of_moved moved]
      · rw [State.expire_pos, State.pos_of_moved moved]
    · refine hu.congr ?_ ?_
      · rw [State.expire_pos, State.pos_of_moved_of_ne moved ha]
      · rw [State.expire_list_of_ne _ ha, State.list_of_moved moved]
  | preset a p unused moved =>
    by_cases ha : ax = a
    · subst ha; exact State.listAhead_of_nil ((State.list_of_moved moved ax).trans unused) 0
    · exact (hs ax).congr (State.pos_of_moved_of_ne moved ha) (State.list_of_moved moved ax)
  | clear lists free => exact State.listAhead_of_nil (lists ax) 0

/-- Settles O11: every change that a command makes of the Schedule keeps each list in order and ahead of its axis. -/
theorem stepKeepsTheListsOrdered : Obligations.StepKeepsTheListsOrdered := fun s t ho hp h =>
  State.listAhead_iff.1 (step_keeps (P := fun u => ∀ ax, u.ListAhead ax 0)
    (fun _ _ h ax => (h ax).of_schedule rfl) (fun _ _ _ hs h => (exec_scheduleChange h).keeps_ahead hs) s t
    (State.listAhead_iff.2 ⟨ho, hp⟩) h)

end Sys2Proof.Machine
end

section
/-!
One release of a pass (R24 to R35): what it makes of the item, of the lines and of the records, and how the pass goes
on from there (R33, R200).
-/
namespace Sys2Proof.Machine

variable (s : State)

/-! ### The engine state under a pass -/

@[simp] theorem State.request_engine (n : Fin 16) (q : FiringRequest) : (s.request n q).1.engine = s.engine := by
  rw [State.request_eq]

@[simp] theorem State.tally_engine (h : Handle) (a : Answer) : (s.tally h a).engine = s.engine := by
  unfold State.tally; split <;> rfl

@[simp] theorem State.applyDefault_engine (h : Handle) (i : Fin 128) (ax : Axis) (p : Pos) :
    (s.applyDefault h i ax p).engine = s.engine := by
  unfold State.applyDefault; repeat' split
  all_goals rfl

@[simp] theorem State.markLate_engine (h : Handle) : (s.markLate h).engine = s.engine := by
  unfold State.markLate; split <;> rfl

@[simp] theorem State.lowerPending_engine (h : Handle) : (s.lowerPending h).engine = s.engine := by
  unfold State.lowerPending; dsimp only; repeat' split
  all_goals rfl

@[simp] theorem State.actOn_engine (ax : Axis) (e : Entry) : (s.actOn ax e).engine = s.engine := by
  unfold State.actOn; dsimp only; repeat' split
  all_goals simp

@[simp] theorem State.tellLate_engine (ax : Axis) (e : Entry) : (s.tellLate ax e).engine = s.engine := by
  unfold State.tellLate; repeat' split
  all_goals simp

@[simp] theorem State.freeEntry_engine (e : Entry) : (s.freeEntry e).engine = s.engine := by
  rw [State.freeEntry_frame]

/-- A release leaves the engine state: only the end of the pass may change it (R200). -/
@[simp] theorem State.release_engine (ax : Axis) (e : Entry) : (s.release ax e).engine = s.engine := by
  unfold State.release; dsimp only; split <;> simp

@[simp] theorem State.releasePass_engine (ax : Axis) : (s.releasePass ax).engine = s.engine :=
  State.releasePass_induct (P := fun s t => t.engine = s.engine) (fun _ _ => rfl)
    (fun s u e rest _ _ hu => by rw [hu, State.release_engine, State.setList_engine]) s

/-! ### How a pass goes on after its first release (R24, R33, R200) -/

/-- A notice depends on the part before the event by whether it was empty alone. -/
theorem State.engineNotice_congr {before before' : State} (h : Claims.PartEmpty before ↔ Claims.PartEmpty before') :
    s.engineNotice before = s.engineNotice before' := by
  have hempty : before.isEmpty = before'.isEmpty := by
    rw [Bool.eq_iff_iff, State.isEmpty_iff, State.isEmpty_iff]; exact h
  unfold State.engineNotice
  rw [hempty]

variable {s}

theorem State.not_partEmpty_of_list {ax : Axis} (h : s.list ax ≠ []) : ¬ Claims.PartEmpty s :=
  fun he => h (Claims.list_eq_nil_of_partEmpty he ax)

/-- The part after the first release of a pass is the part that the pass goes on from. -/
theorem State.passGoesOnFrom_release {ax : Axis} {e : Entry} {rest : List Entry} (hl : s.list ax = e :: rest)
    (hr : reached (s.pos ax) e.due = true) :
    Claims.PassGoesOnFrom ax s ((s.setList ax rest).release ax e) := by
  have hpass := State.releasePass_cons hl hr
  have hengine : ((s.setList ax rest).release ax e).engine = s.engine := by simp
  have hbusy : ¬ Claims.PartEmpty s :=
    State.not_partEmpty_of_list (ax := ax) (by rw [hl]; exact List.cons_ne_nil e rest)
  generalize (s.setList ax rest).release ax e = r at hpass hengine
  have hquiet : r.ListQuiet ax → exec (.scheduleReleasePass ax) s = .next (r.engineNotice s) := fun hq =>
    congrArg Host.Outcome.next (by rw [State.passEvent, hpass, State.releasePass_quiet hq])
  refine ⟨fun hne => congrArg Host.Outcome.next ?_, fun hq hstay => ?_, fun hq hquiescing hempty => ?_⟩
  · rw [State.passEvent, State.passEvent, hpass]
    exact State.engineNotice_congr _ (iff_of_false hbusy (State.not_partEmpty_of_list hne))
  · rw [hquiet hq, State.engineNotice_stays]
    rcases hstay with h | h
    · exact .inl (by rwa [hengine])
    · exact .inr (.inl h)
  · rw [hquiet hq, State.engineNotice_empties (by rw [hengine, hquiescing]) hempty hbusy]
    rfl

/-! ### The answer of a line (R113) -/

theorem State.measurePos_congr {t : State} (hpos : ∀ ax, t.pos ax = s.pos ax) (m : Measure) :
    t.measurePos m = s.measurePos m := by
  cases m with
  | time => exact hpos .t
  | distance enc => exact hpos enc.axis

/-- An answer depends on the lines and on the positions alone. -/
theorem State.answer_congr {t : State} (hlines : t.lines = s.lines) (hpos : ∀ ax, t.pos ax = s.pos ax) (n : Fin 16)
    (q : FiringRequest) : t.answer n q = s.answer n q := by
  have ht : t.t = s.t := hpos .t
  unfold State.answer State.pulseFor
  simp only [State.line_congr hlines, State.measurePos_congr hpos, ht]

/-! ### A host entry (R26, R31, R35) -/

/-- The request of a host entry of `tag` released with its axis at `p` (R31). -/
def Entry.hostRequest (e : Entry) (tag width : Word) (unit : WidthUnit) (ax : Axis) (p : Pos) : FiringRequest :=
  { width := width, unit := unit, axis := ax, position := p, origin := .host tag, late := decide (p ≠ e.due) }

/-- The release of a host entry is its request and no more (R31, R35). -/
theorem State.actOn_host {e : Entry} {tag width : Word} {line : Fin 16} {unit : WidthUnit} {c : Condition}
    (ho : e.owner = .host tag) (ha : e.action = .pulse line width unit c) (ax : Axis) :
    (s.actOn ax e).tellLate ax e =
      (s.request line (e.hostRequest tag width unit ax (s.pos ax))).1 := by
  unfold State.actOn State.tellLate Entry.request
  simp only [ho, ha]
  rfl

/-- And then the entry is freed or inserted again (R32, R34). -/
theorem State.release_host {e : Entry} {tag width : Word} {line : Fin 16} {unit : WidthUnit} {c : Condition}
    (ho : e.owner = .host tag) (ha : e.action = .pulse line width unit c) (ax : Axis) :
    s.release ax e =
      if e.repeats = 0 then
        (s.request line (e.hostRequest tag width unit ax (s.pos ax))).1.freeNumber e.number
      else (s.request line (e.hostRequest tag width unit ax (s.pos ax))).1.insert ax e.again := by
  unfold State.release
  simp only [State.actOn_host ho ha, State.freeEntry, ho]

/-! ### An item's entry (R25 to R31, R34, R35) -/

/-- The part with other lines, with item `y` in the slot of handle `h`, and with the records `rs` offered. -/
def State.withItem (s : State) (lines : Vector Line 16) (h : Handle) (y : Option Item) (rs : List Report) : State :=
  { s with
    lines := lines
    slots := s.slots.set h.slot { gen := h.gen, item := y }
    queue := Claims.offers s.queue rs }

section WithItem

variable {h : Handle} {x y : Item} {lines : Vector Line 16} {rs : List Report}

theorem State.withItem_self (hx : s.findItem h = some x) : s.withItem s.lines h (some x) [] = s := by
  obtain ⟨hg, hi⟩ := State.findItem_eq_some.1 hx
  have hslot : ({ gen := h.gen, item := some x } : Slot) = s.slots[h.slot] := by rw [← hg, ← hi]; rfl
  have hslots : s.slots.set h.slot { gen := h.gen, item := some x } = s.slots := by
    rw [hslot]; simp
  unfold State.withItem
  rw [hslots]; rfl

@[simp] theorem State.findItem_withItem : (s.withItem lines h (some y) rs).findItem h = some y := by
  simp [State.findItem, State.slot, State.withItem]

theorem State.withItem_setItem (z : Option Item) :
    (s.withItem lines h (some y) rs).setItem h.slot z = s.withItem lines h z rs := by
  simp [State.setItem, State.setSlot, State.slot, State.withItem]

theorem State.withItem_offer (z : Option Item) (r : Report) :
    (s.withItem lines h z rs).offer r = s.withItem lines h z (rs ++ [r]) := by
  simp only [State.withItem, State.offer, offers_append]; rfl

theorem State.withItem_pos (z : Option Item) (k : Axis) : (s.withItem lines h z rs).pos k = s.pos k := by
  cases k <;> rfl

/-- The default at a decision point (R27, R30, R61). -/
theorem State.withItem_applyDefault (step : Fin 128) (ax : Axis) (p : Pos) :
    (s.withItem lines h (some x) rs).applyDefault h step ax p =
      s.withItem lines h (some (Claims.decided x true)) (rs ++ Claims.defaultRecords h x step ax p true) := by
  unfold State.applyDefault Claims.decided Claims.defaultRecords
  rw [State.findItem_withItem]
  cases hd : x.decision with
  | none => simp only [hd, State.withItem_setItem, State.withItem_offer]
  | some d => simp only [hd, List.append_nil]

theorem Item.tally_eq (x : Item) (a : Answer) : x.tally a = Claims.answered x a := by
  have hcount : ∀ n : Nat, countUp n = if n < 255 then n + 1 else 255 := fun n => by
    unfold countUp Config.byteLimit; split <;> omega
  cases a <;> simp only [Item.tally, Claims.answered, hcount]

theorem State.withItem_tally (a : Answer) :
    (s.withItem lines h (some x) rs).tally h a = s.withItem lines h (some (Claims.answered x a)) rs := by
  unfold State.tally
  rw [State.findItem_withItem]
  dsimp only
  rw [State.withItem_setItem, Item.tally_eq]

/-- The request of a released entry (R31, R113). -/
theorem State.withItem_request (z : Option Item) (n : Fin 16) (q : FiringRequest) :
    (s.withItem s.lines h z rs).request n q =
      (s.withItem (s.lines.set n (s.answer n q).1) h z (rs ++ Claims.dropRecords n q (s.answer n q).2),
        (s.answer n q).2) := by
  have hanswer : (s.withItem s.lines h z rs).answer n q = s.answer n q :=
    State.answer_congr rfl (State.withItem_pos z) n q
  refine Prod.ext ?_ ?_
  · rw [State.request_eq, hanswer]
    simp only [State.withItem, offers_append]
  · rw [State.request_answer, hanswer]

/-- The late flag (R25, R64). -/
theorem State.withItem_tellLate {e : Entry} {step : Fin 128} (ho : e.owner = .item h step) (ax : Axis) :
    (s.withItem lines h (some x) rs).tellLate ax e =
      s.withItem lines h (some { x with late := x.late || decide (s.pos ax ≠ e.due) }) rs := by
  unfold State.tellLate State.markLate
  simp only [ho, State.withItem_pos]
  by_cases hdue : s.pos ax = e.due
  · simp [hdue]
  · simp [hdue, State.withItem_setItem]

theorem conditionHolds_eq (c : Condition) (d : Option (Verdict × VerdictSource)) :
    conditionHolds c (d.map fun d => d.1) = Claims.fires c d := by
  rcases d with _ | ⟨_ | _, _⟩ <;> cases c <;> rfl

@[simp] theorem Claims.decided_late (x : Item) (point : Bool) : (Claims.decided x point).late = x.late := by
  unfold Claims.decided; split <;> rfl

@[simp] theorem Claims.decided_pending (x : Item) (point : Bool) : (Claims.decided x point).pending = x.pending := by
  unfold Claims.decided; split <;> rfl

@[simp] theorem Claims.answered_late (x : Item) (a : Answer) : (Claims.answered x a).late = x.late := by
  cases a <;> rfl

@[simp] theorem Claims.answered_pending (x : Item) (a : Answer) : (Claims.answered x a).pending = x.pending := by
  cases a <;> rfl

/-- The default at the release, where the release is a decision point (R27, R30, R61). -/
theorem State.applyDefault_at (hx : s.findItem h = some x) (step : Fin 128) (ax : Axis) (point : Bool) :
    (if point then s.applyDefault h step ax (s.pos ax) else s) =
      s.withItem s.lines h (some (Claims.decided x point)) (Claims.defaultRecords h x step ax (s.pos ax) point) := by
  conv_lhs => rw [← State.withItem_self hx]
  cases point with
  | false => rfl
  | true => exact State.withItem_applyDefault step ax _

/-- What the release of an item's entry does before the entry is freed or inserted again (R35). -/
theorem State.actOn_item {e : Entry} {step : Fin 128} (ho : e.owner = .item h step) (hx : s.findItem h = some x)
    (ax : Axis) :
    (s.actOn ax e).tellLate ax e =
      s.withItem (Claims.releasedLines s ax e h x) h (some (Claims.releasedItem s ax e h x))
        (Claims.releasedRecords s ax e h step x) := by
  unfold Claims.releasedLines Claims.releasedItem Claims.releasedRecords
  cases ha : e.action with
  | deadline =>
    have hacted : s.actOn ax e = s.applyDefault h step ax (s.pos ax) := by
      unfold State.actOn; simp only [ho, ha]
    have hdefault := State.applyDefault_at hx step ax true
    rw [if_pos rfl] at hdefault
    rw [hacted, hdefault, State.withItem_tellLate ho, Claims.decided_late]
  | pulse line width unit c =>
    have hdefault := State.applyDefault_at hx step ax (decide (c ≠ .always))
    simp only [decide_eq_true_eq, ne_eq, ite_not] at hdefault
    have hrequest : e.request width unit ax (s.pos ax) =
        { width := width, unit := unit, axis := ax, position := s.pos ax, origin := .item h
          late := decide (s.pos ax ≠ e.due) } := by
      rw [Entry.request, ho]; rfl
    unfold State.actOn State.verdictOf
    simp only [ho, ha, hrequest, hdefault, State.findItem_withItem, conditionHolds_eq]
    by_cases hf : Claims.fires c (Claims.decided x (decide (¬c = .always))).decision
    · simp only [hf, if_true, ne_eq, State.withItem_request, State.withItem_tally, State.withItem_tellLate ho,
        Claims.answered_late, Claims.decided_late]
    · simp only [hf, if_false, ne_eq, State.withItem_tellLate ho, Claims.decided_late, List.append_nil,
        Bool.false_eq_true]

theorem Claims.releasedItem_pending (s : State) (ax : Axis) (e : Entry) (h : Handle) (x : Item) :
    (Claims.releasedItem s ax e h x).pending = x.pending := by
  unfold Claims.releasedItem
  cases e.action with
  | deadline => exact Claims.decided_pending x true
  | pulse line width unit c =>
    dsimp only; split
    · rw [Claims.answered_pending, Claims.decided_pending]
    · exact Claims.decided_pending x _

/-- One freed entry of an item that has others, or none (R34, R65). -/
theorem State.withItem_lowerPending :
    (s.withItem lines h (some x) rs).lowerPending h =
      if x.pending - 1 = 0 then s.withItem lines h none (rs ++ [itemDoneReport h { x with pending := 0 }])
      else s.withItem lines h (some { x with pending := x.pending - 1 }) rs := by
  unfold State.lowerPending
  rw [State.findItem_withItem]
  dsimp only
  split
  · rename_i hzero
    rw [State.withItem_offer, State.withItem_setItem, hzero]
  · rw [State.withItem_setItem]

/-- The release of an item's entry (R32, R34, R35, R65). -/
theorem State.release_item {e : Entry} {step : Fin 128} (ho : e.owner = .item h step) (hx : s.findItem h = some x)
    (ax : Axis) :
    s.release ax e =
      let y := Claims.releasedItem s ax e h x
      let records := Claims.releasedRecords s ax e h step x
      let after := s.withItem (Claims.releasedLines s ax e h x) h
      if e.repeats ≠ 0 then (after (some y) records).insert ax e.again
      else if x.pending - 1 = 0 then
        (after none (records ++ [itemDoneReport h { y with pending := 0 }])).freeNumber e.number
      else (after (some { y with pending := x.pending - 1 }) records).freeNumber e.number := by
  have hfree : ∀ (y : Option Item) (rs : List Report),
      (s.withItem (Claims.releasedLines s ax e h x) h y rs).freeNumber e.number =
        (s.freeNumber e.number).withItem (Claims.releasedLines s ax e h x) h y rs := fun _ _ => rfl
  unfold State.release State.freeEntry
  simp only [State.actOn_item ho hx, ho, hfree, State.withItem_lowerPending, Claims.releasedItem_pending, ite_not]

end WithItem

/-! ### The release on the list without its head -/

section SetList

variable (s : State) (ax : Axis) (rest : List Entry)

theorem State.setList_answer (n : Fin 16) (q : FiringRequest) : (s.setList ax rest).answer n q = s.answer n q :=
  State.answer_congr (s.setList_lines ax rest) (s.setList_pos ax rest) n q

theorem Claims.releasedLines_setList (e : Entry) (h : Handle) (x : Item) :
    Claims.releasedLines (s.setList ax rest) ax e h x = Claims.releasedLines s ax e h x := by
  unfold Claims.releasedLines
  simp only [State.setList_answer, State.setList_pos, State.setList_lines]

theorem Claims.releasedItem_setList (e : Entry) (h : Handle) (x : Item) :
    Claims.releasedItem (s.setList ax rest) ax e h x = Claims.releasedItem s ax e h x := by
  unfold Claims.releasedItem
  simp only [State.setList_answer, State.setList_pos]

theorem Claims.releasedRecords_setList (e : Entry) (h : Handle) (step : Fin 128) (x : Item) :
    Claims.releasedRecords (s.setList ax rest) ax e h step x = Claims.releasedRecords s ax e h step x := by
  unfold Claims.releasedRecords
  simp only [State.setList_answer, State.setList_pos]

theorem State.findItem_setList (h : Handle) : (s.setList ax rest).findItem h = s.findItem h :=
  State.findItem_congr (s.setList_slots ax rest) h

theorem State.setList_withItem (lines : Vector Line 16) (h : Handle) (y : Option Item) (rs : List Report) :
    (s.setList ax rest).withItem lines h y rs = (s.withItem lines h y rs).setList ax rest := by
  cases ax <;> rfl

theorem State.setList_freeNumber (n : Nat) :
    (s.setList ax rest).freeNumber n = (s.freeNumber n).setList ax rest := by
  cases ax <;> rfl

theorem State.setList_request (n : Fin 16) (q : FiringRequest) :
    ((s.setList ax rest).request n q).1 = (s.request n q).1.setList ax rest := by
  rw [State.request_eq, State.request_eq, State.setList_answer]
  cases ax <;> rfl

/-- An insertion into a list that has been replaced. -/
theorem State.setList_insert (e : Entry) :
    (s.setList ax rest).insert ax e = s.setList ax (insertByLead (s.pos ax) e rest) := by
  rw [State.insert, State.list_setList, State.setList_pos, State.setList_setList]

end SetList

/-- Settles O45: one release by `State.release_item` and `State.release_host`, and then `passGoesOnFrom_release`. -/
theorem releaseOfOneEntry : Obligations.ReleaseOfOneEntry := by
  constructor
  · intro s ax e rest h step x hl hr ho hx y records s1
    have hgoes := State.passGoesOnFrom_release hl hr
    rw [State.release_item ho ((s.findItem_setList ax rest h).trans hx) ax] at hgoes
    simp only [Claims.releasedLines_setList, Claims.releasedItem_setList, Claims.releasedRecords_setList,
      State.setList_withItem, State.setList_freeNumber, State.setList_insert, State.withItem_pos] at hgoes
    refine ⟨fun h0 hp => ?_, fun h0 hp => ?_, fun h0 => ?_⟩
    · rw [if_neg (not_not_intro h0), if_neg (by omega)] at hgoes
      exact hgoes
    · rw [if_neg (not_not_intro h0), if_pos (by omega)] at hgoes
      exact hgoes
    · rw [if_pos h0] at hgoes
      exact hgoes
  · intro s ax e rest tag line width unit c hl hr ho ha q s1
    have hgoes := State.passGoesOnFrom_release hl hr
    have hrequested : (s.request line (e.hostRequest tag width unit ax (s.pos ax))).1 = s1 := s.request_eq line _
    rw [State.release_host ho ha, State.setList_pos, State.setList_request, hrequested, State.setList_freeNumber,
      State.setList_insert] at hgoes
    refine ⟨fun h0 => ?_, fun h0 => ?_⟩
    · rw [if_pos h0] at hgoes
      exact hgoes
    · rw [if_neg h0] at hgoes
      exact hgoes

end Sys2Proof.Machine
end

section
/-!
The two packets of the Schedule: SCHEDULE_FIRE (R38, R39) and CANCEL_TAG (R40).
-/
namespace Sys2Proof.Machine

variable {s : State}

/-! ### CANCEL_TAG (R40) -/

/-- A CANCEL_TAG is read back from its words. -/
theorem exec_cancelTag_ready {tag : Word} (h : s.PacketReady (.cancelTag tag)) :
    exec .cancelTag s = .next ((s.cancelTag tag).passPacket 1) :=
  congrArg Host.Outcome.next (State.onPacket_ready h rfl _)

theorem Entry.ofTag_eq (tag : Word) (e : Entry) : e.ofTag tag = decide (e.owner = .host tag) := by
  unfold Entry.ofTag
  cases e.owner <;> simp

/-- The entries that leave the lists when those that satisfy `p` are removed, list by list. -/
def State.entriesGone (s : State) (p : Entry → Bool) : List Entry :=
  s.tList.filter p ++ s.e1List.filter p ++ s.e2List.filter p

theorem State.entriesGone_length (s : State) (p : Entry → Bool) :
    (s.entriesGone p).length = s.allEntries.countP p := by
  simp only [State.entriesGone, State.allEntries, List.countP_eq_length_filter, List.filter_append,
    List.length_append]

theorem State.freeNumbers_eq (s : State) (es : List Entry) :
    s.freeNumbers es = { s with free := es.foldl (fun l e => insertFree e.number l) s.free } := by
  unfold State.freeNumbers
  induction es generalizing s with
  | nil => rfl
  | cons e es ih => exact ih (s.freeNumber e.number)

/-- Removal changes the lists and the free list and nothing else (R40, R41). -/
theorem State.removeEntries_eq (s : State) (p : Entry → Bool) :
    s.removeEntries p =
      { s with
        tList := s.tList.filter fun e => !p e
        e1List := s.e1List.filter fun e => !p e
        e2List := s.e2List.filter fun e => !p e
        free := (s.entriesGone p).foldl (fun l e => insertFree e.number l) s.free } :=
  State.freeNumbers_eq _ _

theorem State.removeEntries_freeCount (s : State) (p : Entry → Bool) :
    (s.removeEntries p).freeCount = s.freeCount + s.allEntries.countP p := by
  rw [State.removeEntries_eq, State.freeCount, insertFree_foldl_length, State.entriesGone_length, State.freeCount]

theorem State.passPacket_partEmpty (s : State) (n : Nat) : Claims.PartEmpty (s.passPacket n) ↔ Claims.PartEmpty s :=
  Claims.partEmpty_congr rfl (s.passPacket_list n)

/-- Settles O48: the removal of the tag's entries, and then the notice. -/
theorem cancelTagRemovesHostEntries : Obligations.CancelTagRemovesHostEntries := by
  intro s tag hready
  have hcount : Entry.ofTag tag = fun e => decide (e.owner = .host tag) := funext (Entry.ofTag_eq tag)
  have hframe := (s.removeEntries (Entry.ofTag tag)).engineNotice_frame s
  have hempty : Claims.PartEmpty ((s.cancelTag tag).passPacket 1) ↔
      Claims.PartEmpty (s.removeEntries (Entry.ofTag tag)) :=
    (State.passPacket_partEmpty _ 1).trans (State.engineNotice_partEmpty _ s)
  have hengine : (s.removeEntries (Entry.ofTag tag)).engine = s.engine := by rw [State.removeEntries_eq]
  have hqueue : (s.removeEntries (Entry.ofTag tag)).queue = s.queue := by rw [State.removeEntries_eq]
  have htime : (s.removeEntries (Entry.ofTag tag)).t = s.t := by rw [State.removeEntries_eq]
  refine ⟨_, exec_cancelTag_ready hready, fun ax => ?lists, ?freeCount, ?frame, fun hstay => ?stays,
    fun hq hbusy he => ?empties⟩
  case lists =>
    rw [State.passPacket_list, State.cancelTag, State.engineNotice_list, State.removeEntries_list, hcount]
    simp only [ne_eq, decide_not]
  case freeCount =>
    have hfree : ((s.cancelTag tag).passPacket 1).free = (s.removeEntries (Entry.ofTag tag)).free := by
      rw [State.passPacket_free, State.cancelTag, hframe]
    rw [State.freeCount, hfree, ← State.freeCount, State.removeEntries_freeCount, hcount]
  case frame =>
    rw [State.cancelTag, hframe, State.removeEntries_eq]
    rfl
  case stays =>
    rw [hempty] at hstay
    have hnotice : s.cancelTag tag = s.removeEntries (Entry.ofTag tag) := by
      refine State.engineNotice_stays ?_
      rw [hengine]
      exact hstay.imp_right .inl
    rw [hnotice]
    exact ⟨hqueue, hengine⟩
  case empties =>
    have hnotice : s.cancelTag tag = (s.removeEntries (Entry.ofTag tag)).enterQuiesced :=
      State.engineNotice_empties (hengine.trans hq) (hempty.1 he) hbusy
    rw [hnotice]
    refine ⟨rfl, ?_⟩
    rw [State.passPacket_queue, State.enterQuiesced, State.offer_queue, htime, hqueue]
    rfl

/-! ### SCHEDULE_FIRE: the packet and its checks (R38, R39) -/

/-- A SCHEDULE_FIRE is read back from its words. -/
theorem decodeBody_scheduleFire {f : FireFields} (h : (Packet.scheduleFire f).wf = true) :
    decodeBody .scheduleFire (Packet.scheduleFire f).body = some (.scheduleFire f) := by
  have hline : f.line.val % 2 ^ 8 = f.line.val := Nat.mod_eq_of_lt (by omega)
  have haxis : f.axis.code % 2 ^ 8 = f.axis.code := by cases f.axis <;> rfl
  have hunit : f.unit.code % 2 ^ 8 = f.unit.code := by cases f.unit <;> rfl
  have hf : decodeFields .scheduleFire (Packet.scheduleFire f).body = some (.scheduleFire f) := by
    unfold decodeFields
    simp only [Packet.body, wordOf, loByte_word, hiByte_word, BitVec.toNat_ofNat, hline, haxis, hunit,
      decodeAxis_code, decodeFin_val, decodeUnit_code, positionOf_halves, Option.bind_eq_bind, Option.bind_some]
  simp only [decodeBody, hf, h, if_true]

theorem exec_scheduleFire_ready {f : FireFields} (h : s.PacketReady (.scheduleFire f)) :
    exec .scheduleFire s = .next ((s.scheduleFire f).passPacket 7) :=
  congrArg Host.Outcome.next (State.onPacket_ready h (decodeBody_scheduleFire h.1) _)

/-- The model's window is that of R39's table. -/
theorem inFireWindow_eq (p due : Pos) : inFireWindow p due = Claims.inWindow p due := by
  unfold inFireWindow Claims.inWindow distanceBehind forwardDistance Config.fireWindow
  cases hr : reached p due with
  | true =>
    rw [reached_iff] at hr
    have hahead : ¬ (1 ≤ (due - p).toNat ∧ (due - p).toNat ≤ 16777215) := by bv_omega
    simp only [if_true, hahead, decide_false, Bool.false_or]
    exact decide_eq_decide.2 (by omega)
  | false =>
    rw [not_reached_iff] at hr
    have hbehind : ¬ (p - due).toNat ≤ 16777215 := by omega
    have hahead : 1 ≤ (due - p).toNat := by bv_omega
    simp only [Bool.false_eq_true, if_false, hbehind, decide_false, Bool.or_false]
    exact decide_eq_decide.2 (by omega)

theorem State.fireCheck_eq (s : State) (f : FireFields) : s.fireCheck f = Claims.fireRefusal s f := by
  have hfree : s.freeCount < 1 ↔ s.free = [] := by
    rw [State.freeCount, Nat.lt_one_iff, List.length_eq_zero_iff]
  unfold State.fireCheck Claims.fireRefusal
  simp only [inFireWindow_eq, hfree]

/-- A SCHEDULE_FIRE that is not refused finds the engine in RUN and a free entry. -/
theorem Claims.fireRefusal_eq_none {f : FireFields} (h : Claims.fireRefusal s f = none) :
    s.engine = .run ∧ s.free ≠ [] := by
  unfold Claims.fireRefusal at h
  split at h
  · cases h
  · rename_i hrun
    split at h
    · cases h
    · split at h
      · cases h
      · exact ⟨not_not.1 hrun, ‹_›⟩

/-! ### SCHEDULE_FIRE: the entry taken and inserted (R22, R38) -/

/-- The part with the lowest free entry taken and inserted: the release pass has not begun. -/
def State.fired (s : State) (f : FireFields) (n : Nat) (rest : List Nat) : State :=
  { s with free := rest }.setList f.axis
    (insertByLead (s.pos f.axis) (Claims.hostEntry f n) (s.list f.axis))

section Fired

variable {f : FireFields} {n : Nat} {rest : List Nat}

theorem fireEntry_eq (f : FireFields) (n : Nat) : fireEntry f n = Claims.hostEntry f n := by
  unfold fireEntry Claims.hostEntry storedUnit Claims.unitOn
  cases f.axis <;> rfl

theorem State.fireNow_eq (hfree : s.free = n :: rest) (f : FireFields) :
    s.fireNow f = (s.fired f n rest).releasePass f.axis := by
  unfold State.fireNow State.fired State.insert
  rw [hfree, ← fireEntry_eq]
  cases f.axis <;> rfl

theorem State.fired_pos (ax : Axis) : (s.fired f n rest).pos ax = s.pos ax := by
  rw [State.fired, State.setList_pos]; cases ax <;> rfl

theorem State.fired_list :
    (s.fired f n rest).list f.axis = insertByLead (s.pos f.axis) (Claims.hostEntry f n) (s.list f.axis) :=
  State.list_setList _ _ _

theorem State.fired_list_of_ne {other : Axis} (h : other ≠ f.axis) :
    (s.fired f n rest).list other = s.list other := by
  rw [State.fired, State.list_setList_of_ne _ h]; cases other <;> rfl

/-- The entry taken and inserted changes the list and the free list and nothing else. -/
theorem State.fired_restored :
    { s.fired f n rest with tList := s.tList, e1List := s.e1List, e2List := s.e2List, free := s.free } = s := by
  unfold State.fired
  cases f.axis <;> rfl

theorem State.fired_engine : (s.fired f n rest).engine = s.engine := State.setList_engine _ _ _

theorem State.scheduleFire_accepted (h : Claims.fireRefusal s f = none) (hfree : s.free = n :: rest) :
    s.scheduleFire f = (s.fired f n rest).releasePass f.axis := by
  unfold State.scheduleFire
  rw [State.fireCheck_eq, h]
  exact State.fireNow_eq hfree f

/-- An entry not yet due, inserted into a list that owes no release, leaves it owing none (R39). -/
theorem State.fired_listQuiet (hquiet : s.ListQuiet f.axis) (hahead : reached (s.pos f.axis) f.due = false) :
    (s.fired f n rest).ListQuiet f.axis := by
  unfold State.ListQuiet at hquiet ⊢
  rw [State.fired_list, State.fired_pos]
  cases hl : s.list f.axis with
  | nil => exact hahead
  | cons x xs =>
    simp only [hl] at hquiet
    by_cases hle : lead (s.pos f.axis) x.due ≤ lead (s.pos f.axis) (Claims.hostEntry f n).due
    · rw [insertByLead, if_pos hle]; exact hquiet
    · rw [insertByLead, if_neg hle]; exact hahead

/-- An entry already due stands at the head of a list that owed no release (R22). -/
theorem State.fired_list_of_reached (hquiet : s.ListQuiet f.axis) (hdue : reached (s.pos f.axis) f.due = true) :
    (s.fired f n rest).list f.axis = Claims.hostEntry f n :: s.list f.axis := by
  have hlead := (lead_nonpos_iff _ _).2 hdue
  unfold State.ListQuiet at hquiet
  rw [State.fired_list]
  cases hl : s.list f.axis with
  | nil => rfl
  | cons x xs =>
    simp only [hl] at hquiet
    have hx := (lead_pos_iff _ _).2 hquiet
    have hdue' : (Claims.hostEntry f n).due = f.due := rfl
    rw [insertByLead, if_neg (by rw [hdue']; omega)]

/-- The part after the request of an entry that is due at once (R31, R113). -/
def State.firedAtOnce (s : State) (f : FireFields) : State :=
  { s with
    lines := s.lines.set f.line (s.answer f.line (Claims.hostRequest f (s.pos f.axis))).1
    queue := Claims.offers s.queue (Claims.dropRecords f.line (Claims.hostRequest f (s.pos f.axis))
      (s.answer f.line (Claims.hostRequest f (s.pos f.axis))).2) }

/-- Its release, without repeats: the request, and its number back on the free list (R34). -/
theorem State.release_hostEntry (hrepeats : f.repeats = 0) :
    ({ s with free := rest } : State).release f.axis (Claims.hostEntry f n) =
      { s.firedAtOnce f with free := insertFree n rest } := by
  rw [State.release_host (e := Claims.hostEntry f n) rfl rfl, State.request_eq]
  exact if_pos hrepeats

/-- An entry due at once and without repeats is released in the packet's own pass, and its number is free again
(R34, R39). -/
theorem State.fired_releasePass (hfree : s.free = n :: rest) (hquiet : s.ListQuiet f.axis)
    (hdue : reached (s.pos f.axis) f.due = true) (hrepeats : f.repeats = 0) (hlowest : ∀ m ∈ rest, n < m) :
    (s.fired f n rest).releasePass f.axis = s.firedAtOnce f := by
  have hhead : reached ((s.fired f n rest).pos f.axis) (Claims.hostEntry f n).due = true := by
    rw [State.fired_pos]; exact hdue
  have hput : insertFree n rest = s.free := by
    rw [hfree]
    cases rest with
    | nil => rfl
    | cons m ms => exact if_pos (Nat.le_of_lt (hlowest m List.mem_cons_self))
  have hback : (s.fired f n rest).setList f.axis (s.list f.axis) = { s with free := rest } := by
    rw [State.fired, State.setList_setList]; cases f.axis <;> rfl
  have hrelease : ({ s with free := rest } : State).release f.axis (Claims.hostEntry f n) = s.firedAtOnce f := by
    rw [State.release_hostEntry hrepeats, hput]; rfl
  rw [State.releasePass_cons (State.fired_list_of_reached hquiet hdue) hhead, hback, hrelease]
  exact State.releasePass_quiet hquiet

theorem State.fired_inLeadOrder (h : s.InLeadOrder f.axis) : (s.fired f n rest).InLeadOrder f.axis := by
  unfold State.InLeadOrder at h ⊢
  rw [State.fired_list, State.fired_pos]
  exact insertByLead_pairwise h

end Fired

/-! ### The items under a pass that releases host entries alone -/

/-- Every entry of the list that waits for its release is a host entry that fires. -/
def State.DueByHost (s : State) (ax : Axis) : Prop :=
  ∀ e ∈ s.list ax, reached (s.pos ax) e.due = true →
    ∃ tag line width unit c, e.owner = .host tag ∧ e.action = .pulse line width unit c

/-- Such a release touches no item, and what it inserts again is such an entry. -/
theorem State.DueByHost.release {ax : Axis} {e : Entry} {rest : List Entry} (h : s.DueByHost ax)
    (hl : s.list ax = e :: rest) (hr : reached (s.pos ax) e.due = true) :
    ((s.setList ax rest).release ax e).slots = s.slots ∧ ((s.setList ax rest).release ax e).DueByHost ax := by
  obtain ⟨tag, line, width, unit, c, ho, ha⟩ := h e (by rw [hl]; exact List.mem_cons_self) hr
  have hrest : ∀ x ∈ rest, reached (s.pos ax) x.due = true →
      ∃ tag line width unit c, x.owner = .host tag ∧ x.action = .pulse line width unit c :=
    fun x hx => h x (by rw [hl]; exact List.mem_cons_of_mem e hx)
  constructor
  · rw [State.release_host ho ha, State.request_eq]
    split
    · exact s.setList_slots ax rest
    · rw [State.insert_slots]; exact s.setList_slots ax rest
  · unfold State.DueByHost
    rw [State.release_pos, State.setList_pos, State.setList_release_list]
    split
    · exact hrest
    · intro x hx hdue
      rcases mem_insertByLead.1 hx with rfl | hx
      · exact ⟨tag, line, width, unit, c, ho, ha⟩
      · exact hrest x hx hdue

theorem State.DueByHost.releasePass_slots {ax : Axis} (h : s.DueByHost ax) : (s.releasePass ax).slots = s.slots :=
  State.releasePass_induct (P := fun s t => s.DueByHost ax → t.slots = s.slots) (fun _ _ _ => rfl)
    (fun _ _ _ _ hl hr hu h => (hu (h.release hl hr).2).trans (h.release hl hr).1) s h

theorem State.fired_dueByHost {f : FireFields} {n : Nat} {rest : List Nat} (hquiet : s.ListQuiet f.axis)
    (ho : s.InLeadOrder f.axis) : (s.fired f n rest).DueByHost f.axis := by
  unfold State.DueByHost
  rw [State.fired_list, State.fired_pos]
  intro e he hdue
  rcases mem_insertByLead.1 he with rfl | he
  · exact ⟨_, _, _, _, _, rfl, rfl⟩
  · rw [ho.unreached hquiet e he] at hdue
    cases hdue

/-- What a pass leaves alone, field by field: all but the lists, the free list, the slots, the lines and the queue. -/
theorem State.releasePass_restored (s : State) (ax : Axis) :
    { s.releasePass ax with
      tList := s.tList, e1List := s.e1List, e2List := s.e2List, free := s.free, slots := s.slots
      lines := s.lines, queue := s.queue } = s := by
  have hout := s.releasePass_outside ax
  have hdets := s.releasePass_dets ax
  have hengine := s.releasePass_engine ax
  generalize s.releasePass ax = t at hout hdets hengine
  obtain ⟨⟨h1, h2, h3, h4, h5, h6, h7, h8, h9, h10, -, -, -⟩, hring, hparser⟩ := hout
  dsimp only
  rw [h1, h2, h3, h4, h5, h6, h7, h8, h9, h10, hring, hparser, hdets, hengine]

/-- Settles O47: the packet is the pass on `State.fired`, of which each clause is one property. -/
theorem scheduleFireOutcomes : Obligations.ScheduleFireOutcomes := by
  intro s f hready
  rw [exec_scheduleFire_ready hready]
  refine ⟨fun reason hreason => ?refused,
    fun hnone hquiet n rest hfree => ⟨fun hahead => ?waits, fun hdue hrepeats hlowest => ?atOnce⟩,
    fun hnone n rest hfree => ?general, fun hnone hordered => ?leavesNothingDue⟩
  case refused =>
    rw [State.scheduleFire, State.fireCheck_eq, hreason]
    rfl
  case waits =>
    rw [State.scheduleFire_accepted hnone hfree, State.releasePass_quiet (State.fired_listQuiet hquiet hahead)]
    rfl
  case atOnce =>
    rw [State.scheduleFire_accepted hnone hfree, State.fired_releasePass hfree hquiet hdue hrepeats hlowest]
    rfl
  case general =>
    have hrun : ((s.fired f n rest).releasePass f.axis).engine ≠ .quiescing := by
      rw [State.releasePass_engine, State.fired_engine, (Claims.fireRefusal_eq_none hnone).1]
      exact EngineState.noConfusion
    have hevent : (s.fired f n rest).passEvent f.axis = (s.fired f n rest).releasePass f.axis :=
      State.engineNotice_stays (.inl hrun)
    refine ⟨(s.fired f n rest).passEvent f.axis, rfl, ?_⟩
    rw [State.scheduleFire_accepted hnone hfree, hevent]
  case leavesNothingDue =>
    obtain ⟨n, rest, hfree⟩ := List.exists_cons_of_ne_nil (Claims.fireRefusal_eq_none hnone).2
    have ho : s.InLeadOrder f.axis := hordered
    have hfired : (s.fired f n rest).InLeadOrder f.axis := State.fired_inLeadOrder ho
    refine ⟨_, rfl, ?_, fun other hother => ?_, fun hquiet => ?_, ?_⟩ <;>
      rw [State.scheduleFire_accepted hnone hfree]
    · have hall := hfired.releasePass_unreached
      rw [State.fired_pos] at hall
      rwa [State.passPacket_list]
    · rw [State.passPacket_list, State.releasePass_list_of_ne _ hother, State.fired_list_of_ne hother]
    · rw [State.passPacket_slots, (State.fired_dueByHost hquiet ho).releasePass_slots]
      exact State.setList_slots _ _ _
    · have hpass := congrArg (fun u : State =>
          { u with
            tList := s.tList, e1List := s.e1List, e2List := s.e2List, free := s.free, slots := s.slots
            lines := s.lines, queue := s.queue, ring := s.ring, parser := s.parser })
        (State.releasePass_restored (s.fired f n rest) f.axis)
      exact hpass.trans (congrArg (fun u : State =>
          { u with slots := s.slots, lines := s.lines, queue := s.queue, ring := s.ring, parser := s.parser })
        (State.fired_restored (f := f) (n := n) (rest := rest)))

end Sys2Proof.Machine
end

section
/-!
The Item Table's view of the part: the slots, and the lists in which the items' entries stand; and the events that
leave both as they are.
-/
namespace Sys2Proof.Machine

/-- The slots and the lists. -/
@[ext] structure ItemView where
  slots : Vector Slot 64
  list : Axis → List Entry

/-- What the Item Table is about in a state of the part (chapter 3). -/
def State.items (s : State) : ItemView := { slots := s.slots, list := s.list }

section Reads

variable {s t : State} (h : t.items = s.items)

include h

theorem State.slot_of_items (i : Fin 64) : t.slot i = s.slot i := State.slot_congr (congrArg ItemView.slots h) i

theorem State.list_of_items (ax : Axis) : t.list ax = s.list ax := congrArg (fun v => v.list ax) h

theorem State.allEntries_of_items : t.allEntries = s.allEntries :=
  congrArg (fun v : ItemView => v.list .t ++ v.list .e1 ++ v.list .e2) h

end Reads

variable (s : State)

/-! ### Updates -/

@[simp] theorem State.offer_items (r : Report) : (s.offer r).items = s.items := rfl
@[simp] theorem State.setLine_items (n : Fin 16) (l : Line) : (s.setLine n l).items = s.items := rfl
@[simp] theorem State.setDet_items (n : Fin 8) (d : Detector) : (s.setDet n d).items = s.items := rfl
@[simp] theorem State.passPacket_items (n : Nat) : (s.passPacket n).items = s.items := rfl
@[simp] theorem State.halt_items (code : HaltCode) : (s.halt code).items = s.items := rfl

@[simp] theorem State.setEncAxis_items (enc : Enc) (a : EncAxis) : (s.setEncAxis enc a).items = s.items := by
  cases enc <;> rfl

@[simp] theorem State.setStaging_items (b : Bank) : (s.setStaging b).items = s.items := by
  unfold State.setStaging
  cases s.active <;> rfl

@[simp] theorem State.engineNotice_items (before : State) : (s.engineNotice before).items = s.items := by
  rw [State.engineNotice_frame]; rfl

/-! ### Lines -/

@[simp] theorem State.request_items (n : Fin 16) (q : FiringRequest) : (s.request n q).1.items = s.items := by
  rw [State.request_eq]; rfl

@[simp] theorem State.endPulse_items (n : Fin 16) (u : Pulse) (r : EndReason) :
    (s.endPulse n u r).items = s.items := by
  rw [State.endPulse_eq]; rfl

@[simp] theorem State.offerFireDone_items (n : Fin 16) (u : Pulse) (r : EndReason) :
    (s.offerFireDone n u r).items = s.items := by
  rw [State.offerFireDone_eq]; rfl

@[simp] theorem State.offerSlotDrop_items (n : Fin 16) (r : DropReason) :
    (s.offerSlotDrop n r).items = s.items := by
  rw [State.offerSlotDrop_eq]; rfl

@[simp] theorem State.pulseEnd_items (n : Fin 16) : (s.pulseEnd n).items = s.items := by
  unfold State.pulseEnd; repeat' split
  all_goals simp

@[simp] theorem State.maxOnExpiry_items (n : Fin 16) : (s.maxOnExpiry n).items = s.items := by
  unfold State.maxOnExpiry; repeat' split
  all_goals simp

@[simp] theorem State.recoveryEnd_items (n : Fin 16) : (s.recoveryEnd n).items = s.items := by
  unfold State.recoveryEnd; dsimp only; repeat' split
  all_goals rfl

@[simp] theorem State.shutdown_items (n : Fin 16) : (s.shutdown n).items = s.items := by
  unfold State.shutdown; split <;> simp

@[simp] theorem State.monitorSample_items (n : Fin 16) : (s.monitorSample n).items = s.items := by
  unfold State.monitorSample State.takeSample State.raiseFault; dsimp only; repeat' split
  all_goals simp

@[simp] theorem State.armLine_items (n : Fin 16) : (s.armLine n).items = s.items := by
  unfold State.armLine; dsimp only; split <;> rfl

@[simp] theorem State.disarmLine_items (n : Fin 16) : (s.disarmLine n).items = s.items := by
  unfold State.disarmLine; dsimp only; split <;> simp

@[simp] theorem State.clearLineFault_items (n : Fin 16) : (s.clearLineFault n).items = s.items := by
  unfold State.clearLineFault; dsimp only; split <;> rfl

@[simp] theorem State.forceLineOff_items (n : Fin 16) : (s.forceLineOff n).items = s.items := by
  unfold State.forceLineOff; split <;> simp

@[simp] theorem State.configLine_items (n : Fin 16) (cfg : LineConfig) (mon : MonitorConfig) :
    (s.configLine n cfg mon).items = s.items := by
  unfold State.configLine; dsimp only; split <;> rfl

theorem State.eachLine_items {f : State → Fin 16 → State} (h : ∀ (t : State) n, (f t n).items = t.items) :
    (s.eachLine f).items = s.items :=
  List.foldlRecOn (motive := fun t => t.items = s.items) _ _ rfl fun t ht n _ => (h t n).trans ht

theorem State.forLines_items (mask : Word) {act : State → Fin 16 → State}
    (h : ∀ (t : State) n, (act t n).items = t.items) : (s.forLines mask act).items = s.items :=
  s.eachLine_items (f := fun s n => if mask.getLsbD n.val then act s n else s) fun t n => by
    split
    exacts [h t n, rfl]

/-! ### Detectors and axes -/

@[simp] theorem State.lockoutEnd_items (n : Fin 8) : (s.lockoutEnd n).items = s.items := by
  unfold State.lockoutEnd; dsimp only; split <;> rfl

@[simp] theorem State.configDetector_items (n : Fin 8) (cfg : DetectorConfig) :
    (s.configDetector n cfg).items = s.items := by
  unfold State.configDetector; dsimp only; split <;> rfl

@[simp] theorem State.enableDetector_items (n : Fin 8) : (s.enableDetector n).items = s.items := by
  unfold State.enableDetector; dsimp only; split <;> rfl

theorem State.eachDetector_items {f : State → Fin 8 → State} (h : ∀ (t : State) n, (f t n).items = t.items) :
    (s.eachDetector f).items = s.items :=
  List.foldlRecOn (motive := fun t => t.items = s.items) _ _ rfl fun t ht n _ => (h t n).trans ht

theorem State.forDetectors_items (mask : ByteField) {act : State → Fin 8 → State}
    (h : ∀ (t : State) n, (act t n).items = t.items) : (s.forDetectors mask act).items = s.items :=
  s.eachDetector_items (f := fun s n => if mask.getLsbD n.val then act s n else s) fun t n => by
    split
    exacts [h t n, rfl]

@[simp] theorem State.configAxis_items (enc : Enc) (c : AxisSettings) : (s.configAxis enc c).items = s.items := by
  unfold State.configAxis; dsimp only; repeat' split
  all_goals simp

@[simp] theorem State.presetAxis_items (enc : Enc) (p : Pos) : (s.presetAxis enc p).items = s.items := by
  unfold State.presetAxis; dsimp only; split <;> simp

/-! ### The parser, the registers and Engine Control -/

@[simp] theorem State.fenceNotice_items : s.fenceNotice.items = s.items := by
  unfold State.fenceNotice; repeat' split
  all_goals rfl

@[simp] theorem State.fenceTimeout_items : s.fenceTimeout.items = s.items := by
  unfold State.fenceTimeout; repeat' split
  all_goals rfl

@[simp] theorem State.takeFence_items (f : FenceFields) (len : Nat) : (s.takeFence f len).items = s.items := by
  unfold State.takeFence; split <;> rfl

@[simp] theorem State.takeHeader_items : s.takeHeader.items = s.items := by
  unfold State.takeHeader; dsimp only; repeat' split
  all_goals rfl

@[simp] theorem State.switchBank_items : s.switchBank.items = s.items := by
  unfold State.switchBank; split <;> rfl

@[simp] theorem State.startParser_items : s.startParser.items = s.items := by
  unfold State.startParser; split <;> rfl

@[simp] theorem State.stopParser_items : s.stopParser.items = s.items := by
  unfold State.stopParser; split <;> rfl

@[simp] theorem State.quiesce_items : s.quiesce.items = s.items := by
  unfold State.quiesce; repeat' split
  all_goals rfl

@[simp] theorem State.ringData_items (w : Word) : (s.ringData w).items = s.items := by
  unfold State.ringData; split <;> rfl

@[simp] theorem State.resync_items (w : Word) : (s.resync w).items = s.items := by
  unfold State.resync; split <;> rfl

@[simp] theorem State.irqStatusWrite_items (w : Word) : (s.irqStatusWrite w).items = s.items := by
  unfold State.irqStatusWrite; split <;> rfl

@[simp] theorem State.watermarkWrite_items (w : Word) : (s.watermarkWrite w).items = s.items := by
  unfold State.watermarkWrite; split <;> rfl

@[simp] theorem State.spaceLevelWrite_items (w : Word) : (s.spaceLevelWrite w).items = s.items := by
  unfold State.spaceLevelWrite; split <;> rfl

@[simp] theorem State.posSelectWrite_items (w : Word) : (s.posSelectWrite w).items = s.items := by
  unfold State.posSelectWrite; split <;> rfl

@[simp] theorem State.lineSelectWrite_items (w : Word) : (s.lineSelectWrite w).items = s.items := by
  unfold State.lineSelectWrite; split <;> rfl

/-- A bus write leaves the items alone, or is the write of ENGINE_RESET to CMD (R197). -/
theorem State.busWrite_items (offset : BitVec 5) (w : Word) :
    (s.busWrite offset w).items = s.items ∨ s.busWrite offset w = s.engineReset := by
  unfold State.busWrite; split
  case h_1 =>
    split
    · rename_i c _
      cases c with
      | engineReset => exact .inr rfl
      | startParser => exact .inl s.startParser_items
      | stopParser => exact .inl s.stopParser_items
      | quiesce => exact .inl s.quiesce_items
      | ringReset | resume => exact .inl rfl
    · exact .inl rfl
  case h_2 => exact .inl (s.ringData_items w)
  case h_5 => exact .inl (s.resync_items w)
  case h_6 => exact .inl (s.spaceLevelWrite_items w)
  case h_7 => exact .inl (s.irqStatusWrite_items w)
  case h_9 => exact .inl (s.watermarkWrite_items w)
  case h_11 => exact .inl (s.posSelectWrite_items w)
  case h_12 => exact .inl (s.lineSelectWrite_items w)
  all_goals exact .inl rfl

/-- A packet whose owner leaves the items alone. -/
theorem State.onPacket_items (kind : PacketKind) {take : Nat → Packet → State}
    (h : ∀ len p, (take len p).items = s.items) : (s.onPacket kind take).items = s.items :=
  State.onPacket_induct (P := fun t => t.items = s.items) rfl rfl fun len p _ => h len p

end Sys2Proof.Machine
end

section
/-!
What a command makes of the items, said once: the operations on slots and entries, the admissions counted (R46, R54 to
R69), and the resets.
-/
namespace Sys2Proof.Machine

/-! ### The operations -/

/-- One operation on the slots or on the entries in the lists, admissions apart. -/
inductive State.ItemOp (s : State) : State → Prop
  | same {t : State} (h : t.items = s.items) : ItemOp s t
  | pass (ax : Axis) : ItemOp s (s.releasePass ax)
  | fire (f : FireFields) : ItemOp s (s.fireNow f)
  | verdict (h : Handle) (v : Verdict) (tag : Word) : ItemOp s (s.verdict h v tag)
  | cancelItem (h : Handle) : ItemOp s (s.cancelItem h)
  | cancelTag (tag : Word) : ItemOp s (s.cancelTag tag)
  | expire (ax : Axis) (p : Pos) : ItemOp s (s.expire ax p)

/-- Operations one after another, at most `n` of them admissions that have passed their checks under bank `b`. A
handle is stale for good only while fewer than 256 items are admitted to its slot (R46), so they are counted. -/
inductive State.ItemOps (b : Bank) (s : State) : Nat → State → Prop
  | refl (n : Nat) : ItemOps b s n s
  | op {n : Nat} {t u : State} (before : ItemOps b s n t) (last : t.ItemOp u) : ItemOps b s n u
  | admission {n : Nat} {t : State} (before : ItemOps b s n t) (bank : t.activeBank = b) (q : AdmissionRequest)
      (i : Fin 64) (check : t.admissionCheck q.recipe = none) (lowest : t.lowestFreeSlot = some i) :
      ItemOps b s (n + 1) (t.admitTo q i)

variable {s t u : State} {b : Bank} {n m : Nat}

theorem State.ItemOps.of_op (h : s.ItemOp t) : s.ItemOps b n t := .op (.refl n) h

theorem State.ItemOps.of_items (h : t.items = s.items) : s.ItemOps b n t := .of_op (.same h)

theorem State.ItemOps.then_items (h : s.ItemOps b n t) (k : u.items = t.items) : s.ItemOps b n u := .op h (.same k)

theorem State.ItemOps.mono (h : s.ItemOps b n t) (hnm : n ≤ m) : s.ItemOps b m t := by
  induction h generalizing m with
  | refl => exact .refl m
  | op _ last ih => exact .op (ih hnm) last
  | admission _ bank q i check lowest ih =>
    cases m with
    | zero => exact absurd hnm (Nat.not_succ_le_zero _)
    | succ m => exact .admission (ih (Nat.le_of_succ_le_succ hnm)) bank q i check lowest

theorem State.ItemOps.trans (h : s.ItemOps b n t) (k : t.ItemOps b m u) : s.ItemOps b (n + m) u := by
  induction k with
  | refl m => exact h.mono (Nat.le_add_right n m)
  | op _ last ih => exact .op ih last
  | admission _ bank q i check lowest ih => exact .admission ih bank q i check lowest

theorem State.SameFixed.activeBank_eq (h : s.SameFixed t) : t.activeBank = s.activeBank := by
  simp only [State.activeBank, State.bank, h.active, h.bank0, h.bank1]

/-! ### Admissions (R51 to R55, R95) -/

variable (s)

theorem State.admitItem_itemOps {q : AdmissionRequest} (h : s.admissionCheck q.recipe = none) :
    s.ItemOps s.activeBank 1 (s.admitItem q) := by
  unfold State.admitItem; split
  · exact .admission (.refl 0) rfl q _ h ‹_›
  · exact .refl 1

theorem State.injectItem_itemOps (r : Fin 16) (backdate tag : Word) :
    s.ItemOps s.activeBank 1 (s.injectItem r backdate tag) := by
  unfold State.injectItem; split
  · exact .of_items (s.offer_items _)
  · exact s.admitItem_itemOps ‹_›

theorem State.detect_itemOps (n : Fin 8) (c : Capture) : s.ItemOps s.activeBank 1 (s.detect n c) := by
  unfold State.detect State.detectionEvent; dsimp only; split
  · exact .of_items rfl
  · exact (s.admitItem_itemOps ‹_›).then_items (State.setDet_items _ _ _)

theorem State.qualificationComplete_itemOps (n : Fin 8) :
    s.ItemOps s.activeBank 1 (s.qualificationComplete n) := by
  unfold State.qualificationComplete; dsimp only; split
  · split
    · exact s.detect_itemOps n _
    · exact .refl 1
  · exact .refl 1

theorem State.startQualifying_itemOps (n : Fin 8) : s.ItemOps s.activeBank 1 (s.startQualifying n) := by
  have hset := s.setDet_items n { s.det n with state := .qualifying s.capture, count := 0 }
  unfold State.startQualifying; dsimp only; split
  · exact (State.ItemOps.of_items (n := 0) hset).trans (State.detect_itemOps _ n _)
  · exact .of_items hset

theorem State.detectorEdge_itemOps (n : Fin 8) (level : Bool) :
    s.ItemOps s.activeBank 1 (s.detectorEdge n level) := by
  have hlevel := s.setDet_items n { s.det n with lastLevel := level }
  unfold State.detectorEdge; dsimp only; repeat' split
  · exact .refl 1
  · exact .of_items hlevel
  · exact .of_items hlevel
  · exact (State.ItemOps.of_items (n := 0) hlevel).trans (State.startQualifying_itemOps _ n)
  · exact .of_items hlevel
  · exact .of_items hlevel
  · exact (State.ItemOps.of_items hlevel).then_items (State.setDet_items _ n _)

/-- Several detectors that complete their qualifications bring in at most one item each (R94, R95). -/
theorem State.qualifyEach_itemOps (l : List (Fin 8)) :
    s.ItemOps s.activeBank l.length (l.foldl State.qualificationComplete s) := by
  induction l generalizing s with
  | nil => exact .refl 0
  | cons n l ih =>
    have hrest := ih (s.qualificationComplete n)
    rw [(s.qualificationComplete_outside n).toSameFixed.activeBank_eq] at hrest
    exact ((s.qualificationComplete_itemOps n).trans hrest).mono (by rw [List.length_cons]; omega)

/-! ### The events owed (R4) -/

theorem State.passEvent_itemOps (ax : Axis) : s.ItemOps b 0 (s.passEvent ax) :=
  (State.ItemOps.of_op (.pass ax)).then_items (State.engineNotice_items _ s)

/-- What is owed before a tick admits at most one item for each detector. -/
theorem State.settleAll_itemOps : s.ItemOps s.activeBank 8 s.settleAll := by
  unfold State.settleAll
  extract_lets s1 s2 s3 s4 s5 s6 s7
  have hpasses : s.ItemOps s.activeBank 0 s1 :=
    ((s.passEvent_itemOps .t).trans (State.passEvent_itemOps _ .e1)).trans (State.passEvent_itemOps _ .e2)
  have hbank : s1.activeBank = s.activeBank :=
    (((s.passEvent_outside .t).trans (State.passEvent_outside _ .e1)).trans
      (State.passEvent_outside _ .e2)).toSameFixed.activeBank_eq
  have hqualify := s1.qualifyEach_itemOps allDetectors
  rw [hbank] at hqualify
  have hsame : s7.fenceNotice.fenceTimeout.items = s2.items := by
    rw [State.fenceTimeout_items, State.fenceNotice_items, State.eachLine_items _ State.monitorSample_items,
      State.eachLine_items _ State.recoveryEnd_items, State.eachLine_items _ State.maxOnExpiry_items,
      State.eachLine_items _ State.pulseEnd_items, State.eachDetector_items _ State.lockoutEnd_items]
  exact (hpasses.trans hqualify).then_items hsame

/-- What is owed before an encoder axis moves is, for the items, the pass of its list. -/
theorem State.settleAxis_items (enc : Enc) : (s.settleAxis enc).items = (s.releasePass enc.axis).items := by
  have hlock : ∀ t : State, (t.eachDetector (State.lockoutEndOn enc.axis)).items = t.items := fun t =>
    t.eachDetector_items fun u n => by
      unfold State.lockoutEndOn; split
      exacts [u.lockoutEnd_items n, rfl]
  have hpulse : ∀ t : State, (t.eachLine (State.pulseEndOn enc)).items = t.items := fun t =>
    t.eachLine_items fun u n => by
      unfold State.pulseEndOn; repeat' split
      exacts [u.pulseEnd_items n, rfl, rfl]
  have hfence : ∀ t : State, (if t.parser.fencedOn enc.axis then t.fenceNotice else t).items = t.items := fun t => by
    split
    exacts [t.fenceNotice_items, rfl]
  unfold State.settleAxis; dsimp only
  rw [hfence, hpulse, hlock]
  exact State.engineNotice_items _ s

theorem State.settleAxis_itemOps (enc : Enc) : s.ItemOps b 0 (s.settleAxis enc) :=
  (State.ItemOps.of_op (.pass enc.axis)).then_items (s.settleAxis_items enc)

theorem State.advance_itemOps (enc : Enc) : s.ItemOps b 0 (s.advance enc) :=
  (s.settleAxis_itemOps enc).then_items (State.setEncAxis_items _ enc _)

theorem State.keepEndsAhead_items (enc : Enc) (p : Pos) : (s.keepEndsAhead enc p).items = s.items := rfl

theorem State.backwardChange_itemOps (enc : Enc) : s.ItemOps b 0 (s.backwardChange enc) := by
  rw [State.backwardChange_eq rfl]
  have hmoved := (s.settleAxis_itemOps (b := b) enc).then_items ((State.keepEndsAhead_items _ enc
    ((s.encAxis enc).pos - 1)).trans (State.setEncAxis_items _ enc { s.encAxis enc with pos := (s.encAxis enc).pos - 1 }))
  exact (hmoved.op (.expire enc.axis _)).then_items (State.engineNotice_items _ _)

theorem State.quadTransition_itemOps (enc : Enc) (ph : Phases) : s.ItemOps b 0 (s.quadTransition enc ph) := by
  have hset := fun a : EncAxis => State.ItemOps.of_items (b := b) (n := 0) (s.setEncAxis_items enc a)
  rcases State.quadTransition_cases (s := s) (enc := enc) rfl ph with ⟨-, h⟩ | ⟨-, h⟩ | ⟨-, h⟩ <;> rw [h]
  · exact (hset _).then_items rfl
  · exact (hset _).trans (State.advance_itemOps _ enc)
  · exact (hset _).trans (State.backwardChange_itemOps _ enc)

theorem State.scheduleFire_itemOps (f : FireFields) : s.ItemOps b 0 (s.scheduleFire f) := by
  unfold State.scheduleFire; split
  · exact .of_items (s.offer_items _)
  · exact .of_op (.fire f)

/-! ### All that a command makes of the items -/

/-- What a command makes of the slots and of the lists: operations with at most one admission for each detector, or
no item and no entry is left (R44, R45, R72, R74). -/
inductive State.ItemChange (s : State) : State → Prop
  | ops {t : State} (h : s.ItemOps s.activeBank 8 t) : ItemChange s t
  | clear {t : State} (slots : ∀ i : Fin 64, (t.slot i).item = none) (lists : ∀ ax : Axis, t.list ax = []) :
      ItemChange s t

theorem State.ItemChange.of_items {s t : State} (h : t.items = s.items) : s.ItemChange t := .ops (.of_items h)

theorem State.engineReset_itemChange : s.ItemChange s.engineReset :=
  .clear (fun i => by rw [State.slot_engineReset]) (fun ax => by cases ax <;> rfl)

theorem State.tick_itemChange (fb : Word) : s.ItemChange (s.tick fb) := by
  refine .ops (s.settleAll_itemOps.then_items ?_)
  unfold State.tick
  generalize s.settleAll = u
  rfl

/-- A packet whose owner makes operations on the items. -/
theorem State.onPacket_itemChange (kind : PacketKind) {take : Nat → Packet → State}
    (h : ∀ len p, s.ItemOps s.activeBank 8 (take len p)) : s.ItemChange (s.onPacket kind take) :=
  State.onPacket_induct (P := s.ItemChange) (.of_items rfl) (.of_items (s.halt_items _)) fun len p _ => .ops (h len p)

/-- Every command makes one of these changes. -/
theorem exec_itemChange {c : Instr} {s t : State} (h : exec c s = .next t) : s.ItemChange t := by
  have hpass := fun {u : State} (len : Nat) (hu : u.items = s.items) => (u.passPacket_items len).trans hu
  have hops := fun {u : State} {n : Nat} (len : Nat) (hu : s.ItemOps s.activeBank n u) (hn : n ≤ 8) =>
    (hu.mono hn).then_items (u.passPacket_items len)
  cases c
  case tick fb =>
    obtain rfl : s.tick fb = t := Host.Outcome.next.inj h
    exact s.tick_itemChange fb
  all_goals cases h
  case hardwareReset p q di fb =>
    exact .clear (fun i => by rw [State.slot_hardwareReset]) (fun ax => by cases ax <;> rfl)
  case engineReset => exact s.engineReset_itemChange
  case quadTransition enc ph => exact .ops ((s.quadTransition_itemOps enc ph).mono (by omega))
  case scheduleReleasePass ax => exact .ops ((s.passEvent_itemOps ax).mono (by omega))
  case detectorEdge n level => exact .ops ((s.detectorEdge_itemOps n level).mono (by omega))
  case qualificationComplete n => exact .ops ((s.qualificationComplete_itemOps n).mono (by omega))
  case injectItem =>
    exact s.onPacket_itemChange _ fun len p => by
      split
      exacts [hops len (s.injectItem_itemOps _ _ _) (by omega), .refl 8]
  case scheduleFire =>
    exact s.onPacket_itemChange _ fun len p => by
      split
      exacts [hops len (s.scheduleFire_itemOps _) (by omega), .refl 8]
  case verdict =>
    exact s.onPacket_itemChange _ fun len p => by
      split
      exacts [hops len (.of_op (.verdict _ _ _)) (le_refl 8), .refl 8]
  case cancelItem =>
    exact s.onPacket_itemChange _ fun len p => by
      split
      exacts [hops len (.of_op (.cancelItem _)) (le_refl 8), .refl 8]
  case cancelTag =>
    exact s.onPacket_itemChange _ fun len p => by
      split
      exacts [hops len (.of_op (.cancelTag _)) (le_refl 8), .refl 8]
  case registerWriteIgnored o w =>
    rcases s.busWrite_items o w with k | k
    · exact .of_items k
    · rw [k]; exact s.engineReset_itemChange
  all_goals refine .of_items ?_
  case lockoutEnd n => exact s.lockoutEnd_items n
  case pulseEnd n => exact s.pulseEnd_items n
  case maxOnExpiry n => exact s.maxOnExpiry_items n
  case recoveryEnd n => exact s.recoveryEnd_items n
  case monitorSample n => exact s.monitorSample_items n
  case fenceNotice => exact s.fenceNotice_items
  case fenceTimeout => exact s.fenceTimeout_items
  case parserTakeHeader => exact s.takeHeader_items
  case pad => exact s.onPacket_items _ fun len _ => s.passPacket_items len
  case copyBank => exact s.onPacket_items _ fun len _ => hpass len (s.setStaging_items _)
  case switchBank => exact s.onPacket_items _ fun len _ => hpass len s.switchBank_items
  case mark => exact s.onPacket_items _ fun len p => by split <;> rfl
  case fence =>
    exact s.onPacket_items _ fun len p => by
      split
      exacts [s.takeFence_items _ len, rfl]
  case configAxis =>
    exact s.onPacket_items _ fun len p => by
      split
      exacts [hpass len (s.configAxis_items _ _), rfl]
  case presetAxis =>
    exact s.onPacket_items _ fun len p => by
      split
      exacts [hpass len (s.presetAxis_items _ _), rfl]
  case configDetector =>
    exact s.onPacket_items _ fun len p => by
      split
      exacts [hpass len (s.configDetector_items _ _), rfl]
  case enable =>
    exact s.onPacket_items _ fun len p => by
      split
      exacts [hpass len (s.forDetectors_items _ State.enableDetector_items), rfl]
  case disable =>
    exact s.onPacket_items _ fun len p => by
      split
      exacts [hpass len (s.forDetectors_items _ fun t n => t.setDet_items n _), rfl]
  case configLine =>
    exact s.onPacket_items _ fun len p => by
      split
      exacts [hpass len (s.configLine_items _ _ _), rfl]
  case arm =>
    exact s.onPacket_items _ fun len p => by
      split
      exacts [hpass len (s.forLines_items _ State.armLine_items), rfl]
  case disarm =>
    exact s.onPacket_items _ fun len p => by
      split
      exacts [hpass len (s.forLines_items _ State.disarmLine_items), rfl]
  case clearFault =>
    exact s.onPacket_items _ fun len p => by
      split
      exacts [hpass len (s.forLines_items _ State.clearLineFault_items), rfl]
  case forceOff =>
    exact s.onPacket_items _ fun len p => by
      split
      exacts [hpass len (s.forLines_items _ State.forceLineOff_items), rfl]
  case writeRecipe =>
    exact s.onPacket_items _ fun len p => by
      split
      exacts [hpass len (s.setStaging_items _), rfl]
  case writeSteps =>
    exact s.onPacket_items _ fun len p => by
      split
      exacts [hpass len (s.setStaging_items _), rfl]
  case startParser => exact s.startParser_items
  case stopParser => exact s.stopParser_items
  case quiesce => exact s.quiesce_items
  case ringData w => exact s.ringData_items w
  case resync w => exact s.resync_items w
  case irqStatusWrite w => exact s.irqStatusWrite_items w
  case reportWatermarkWrite w => exact s.watermarkWrite_items w
  case ringSpaceLevelWrite w => exact s.spaceLevelWrite_items w
  case posSelectWrite w => exact s.posSelectWrite_items w
  case lineSelectWrite w => exact s.lineSelectWrite_items w
  case ringReset | resume | ringPublish | ringWithdraw | reportPop | irqEnableWrite | posLowRead => exact rfl

end Sys2Proof.Machine
end

section
/-!
What a release does to an item without freeing its entry, and a settled verdict under every command (R57 to R61).
-/
namespace Sys2Proof.Machine

/-! ### Items and slots as later events leave them -/

/-- A settled verdict is kept (R59). -/
def Item.KeepsVerdict (x y : Item) : Prop := ∀ d, x.decision = some d → y.decision = some d

/-- The item is the same one with the same pending count, and a settled verdict is kept. -/
structure Item.Handled (x y : Item) : Prop where
  pending : y.pending = x.pending
  verdict : x.KeepsVerdict y

theorem Item.Handled.refl (x : Item) : x.Handled x := ⟨rfl, fun _ h => h⟩

theorem Item.Handled.trans {x y z : Item} (h : x.Handled y) (k : y.Handled z) : x.Handled z :=
  ⟨k.pending.trans h.pending, fun d hd => k.verdict d (h.verdict d hd)⟩

/-- The slot as it was, or with its item handled. -/
inductive Slot.Handled (a : Slot) : Slot → Prop
  | same : Handled a a
  | item {x y : Item} (hx : a.item = some x) (hxy : x.Handled y) : Handled a { a with item := some y }

theorem Slot.Handled.trans {a b c : Slot} (h : a.Handled b) (k : b.Handled c) : a.Handled c := by
  cases h with
  | same => exact k
  | item hx hxy =>
    cases k with
    | same => exact .item hx hxy
    | item hy hyz => cases hy; exact .item hx (hxy.trans hyz)

/-- Every slot is as it was, or with its item handled. -/
def State.SlotsHandled (s t : State) : Prop := ∀ i : Fin 64, (s.slot i).Handled (t.slot i)

variable {s t u : State}

theorem State.SlotsHandled.of_slots (h : t.slots = s.slots) : s.SlotsHandled t := fun i => by
  rw [State.slot_congr h]; exact .same

theorem State.SlotsHandled.refl (s : State) : s.SlotsHandled s := .of_slots rfl

theorem State.SlotsHandled.trans (h : s.SlotsHandled t) (k : t.SlotsHandled u) : s.SlotsHandled u := fun i =>
  (h i).trans (k i)

theorem State.SlotsHandled.setItem {h : Handle} {x y : Item} (hx : s.findItem h = some x) (hxy : x.Handled y) :
    s.SlotsHandled (s.setItem h.slot (some y)) := fun i => by
  rw [State.slot_setItem]
  split
  · rename_i hi
    subst hi
    exact .item (State.findItem_eq_some.1 hx).2 hxy
  · exact .same

/-! ### The events of a release (R25 to R31, R61, R63, R64), and VERDICT (R58) -/

variable (s)

theorem State.applyDefault_handled (h : Handle) (step : Fin 128) (ax : Axis) (p : Pos) :
    s.SlotsHandled (s.applyDefault h step ax p) := by
  unfold State.applyDefault; split
  · rename_i x hx
    split
    · rename_i hd
      have hdefault : x.Handled { x with decision := some (x.dflt, .default) } :=
        ⟨rfl, fun d hd' => absurd (hd.symm.trans hd') (by simp)⟩
      exact (State.SlotsHandled.setItem hx hdefault).trans (.of_slots rfl)
    · exact .refl s
  · exact .refl s

theorem State.tally_handled (h : Handle) (a : Answer) : s.SlotsHandled (s.tally h a) := by
  unfold State.tally; split
  · exact .setItem ‹_› (by cases a <;> exact ⟨rfl, fun _ hd => hd⟩)
  · exact .refl s

theorem State.markLate_handled (h : Handle) : s.SlotsHandled (s.markLate h) := by
  unfold State.markLate; split
  · rename_i x hx
    have hlate : x.Handled { x with late := true } := ⟨rfl, fun _ hd => hd⟩
    exact .setItem hx hlate
  · exact .refl s

theorem State.request_handled (n : Fin 16) (q : FiringRequest) : s.SlotsHandled (s.request n q).1 :=
  .of_slots (congrArg ItemView.slots (s.request_items n q))

theorem State.actOn_handled (ax : Axis) (e : Entry) : s.SlotsHandled (s.actOn ax e) := by
  unfold State.actOn; extract_lets p; split
  · exact s.applyDefault_handled _ _ _ _
  · exact .refl s
  · exact s.request_handled _ _
  · extract_lets s1
    have h : s.SlotsHandled s1 := by
      unfold s1; split
      · exact .refl s
      · exact s.applyDefault_handled _ _ _ _
    split
    · exact (h.trans (State.request_handled _ _ _)).trans (State.tally_handled _ _ _)
    · exact h

theorem State.tellLate_handled (ax : Axis) (e : Entry) : s.SlotsHandled (s.tellLate ax e) := by
  unfold State.tellLate; split
  · split
    · exact .refl s
    · exact s.markLate_handled _
  · exact .refl s

/-- All that a release does before its entry is freed or inserted again. -/
theorem State.acted_handled (ax : Axis) (e : Entry) : s.SlotsHandled ((s.actOn ax e).tellLate ax e) :=
  (s.actOn_handled ax e).trans (State.tellLate_handled _ ax e)

/-- VERDICT settles an AWAITING item and no other (R58, R59). -/
theorem State.verdict_handled (h : Handle) (v : Verdict) (tag : Word) : s.SlotsHandled (s.verdict h v tag) := by
  unfold State.verdict; split
  · exact .of_slots rfl
  · rename_i x hx
    split
    · rename_i hd
      have hverdict : x.Handled { x with decision := some (v, .host), tag := some tag } :=
        ⟨rfl, fun d hd' => absurd (hd.symm.trans hd') (by simp)⟩
      exact .setItem hx hverdict
    · exact .of_slots rfl
    · exact .of_slots rfl

/-! ### Slots over several operations (R46, R59, R65) -/

/-- The slot of the same generation: what item it holds it held before, its settled verdict kept. -/
structure Slot.Later (a b : Slot) : Prop where
  gen : b.gen = a.gen
  item : ∀ y ∈ b.item, ∃ x ∈ a.item, x.KeepsVerdict y

theorem Slot.Later.refl (a : Slot) : a.Later a := ⟨rfl, fun y hy => ⟨y, hy, fun _ h => h⟩⟩

theorem Slot.Later.trans {a b c : Slot} (h : a.Later b) (k : b.Later c) : a.Later c := by
  refine ⟨k.gen.trans h.gen, fun z hz => ?_⟩
  obtain ⟨y, hy, hyz⟩ := k.item z hz
  obtain ⟨x, hx, hxy⟩ := h.item y hy
  exact ⟨x, hx, fun d hd => hyz d (hxy d hd)⟩

/-- The slot after at most `n` admissions to it: each advances the generation, and without one it is the same slot
later on. -/
def Slot.Evolves (n : Nat) (a b : Slot) : Prop :=
  ∃ k ≤ n, b.gen = a.gen + BitVec.ofNat 8 k ∧ (k = 0 → a.Later b)

theorem Slot.Later.evolves {a b : Slot} (h : a.Later b) (n : Nat) : a.Evolves n b :=
  ⟨0, Nat.zero_le n, by rw [h.gen]; simp, fun _ => h⟩

theorem Slot.Evolves.trans {a b c : Slot} {n m : Nat} (h : a.Evolves n b) (k : b.Evolves m c) :
    a.Evolves (n + m) c := by
  obtain ⟨i, hi, hgen, hlater⟩ := h
  obtain ⟨j, hj, kgen, klater⟩ := k
  refine ⟨i + j, Nat.add_le_add hi hj, ?_, fun h0 => ?_⟩
  · rw [kgen, hgen, BitVec.add_assoc, ← BitVec.ofNat_add]
  · exact (hlater (by omega)).trans (klater (by omega))

/-- Fewer than 256 admissions bring no generation back (R46). -/
theorem Slot.Evolves.later {a b : Slot} {n : Nat} (h : a.Evolves n b) (hn : n < 256) (hgen : b.gen = a.gen) :
    a.Later b := by
  obtain ⟨k, hk, hadvanced, hlater⟩ := h
  refine hlater ?_
  rw [hgen] at hadvanced
  have hadded : (a.gen.toNat + k % 256) % 256 = a.gen.toNat := by
    simpa [BitVec.toNat_add] using (congrArg BitVec.toNat hadvanced).symm
  omega

variable {s}

theorem State.SlotsHandled.later (h : s.SlotsHandled t) (i : Fin 64) : (s.slot i).Later (t.slot i) := by
  generalize ht : t.slot i = b
  cases ht ▸ h i with
  | same => exact .refl _
  | item hx hxy => exact ⟨rfl, fun y hy => ⟨_, hx, Option.some.inj hy ▸ hxy.verdict⟩⟩

theorem State.later_of_slots (h : t.slots = s.slots) (i : Fin 64) : (s.slot i).Later (t.slot i) :=
  (State.SlotsHandled.of_slots h).later i

theorem Item.lowered_keepsVerdict {k : Nat} {x y : Item} (h : x.lowered k = some y) : x.KeepsVerdict y := by
  unfold Item.lowered at h
  split at h
  · cases h; exact fun _ hd => hd
  · split at h
    · cases h; exact fun _ hd => hd
    · cases h

/-- Freed entries leave each item as it was but for its pending count, or retire it (R34, R65). -/
theorem State.freeEntries_later (s : State) (gone : List Entry) (i : Fin 64) :
    (s.slot i).Later ((s.freeEntries gone).slot i) := by
  rw [State.freeEntries_slot, Claims.slotAfterFreeing_eq]
  refine ⟨rfl, fun y hy => ?_⟩
  obtain ⟨x, hx, hxy⟩ := Option.bind_eq_some_iff.1 hy
  exact ⟨x, hx, Item.lowered_keepsVerdict hxy⟩

theorem State.release_later (s : State) (ax : Axis) (e : Entry) (i : Fin 64) :
    (s.slot i).Later ((s.release ax e).slot i) := by
  have hacted := (s.acted_handled ax e).later i
  unfold State.release; dsimp only; split
  · exact hacted.trans (State.freeEntries_later _ [e] i)
  · exact hacted.trans (State.later_of_slots (State.insert_slots _ _ _) i)

theorem State.releasePass_later (s : State) (ax : Axis) (i : Fin 64) :
    (s.slot i).Later ((s.releasePass ax).slot i) :=
  State.releasePass_induct (P := fun s t => (s.slot i).Later (t.slot i)) (fun s _ => .refl (s.slot i))
    (fun s _ e rest _ _ hu => by
      have hrelease := State.release_later (s.setList ax rest) ax e i
      rw [State.setList_slot] at hrelease
      exact hrelease.trans hu) s

theorem State.insertEntries_slots (s : State) (ax : Axis) (es : List Entry) :
    (es.foldl (fun s e => s.insert ax e) s).slots = s.slots :=
  List.foldlRecOn (motive := fun u : State => u.slots = s.slots) _ _ rfl fun u hu e _ =>
    (u.insert_slots ax e).trans hu

theorem State.removeEntries_slots (s : State) (p : Entry → Bool) : (s.removeEntries p).slots = s.slots := by
  rw [State.removeEntries_eq]

theorem State.cancelItem_later (s : State) (h : Handle) (i : Fin 64) :
    (s.slot i).Later ((s.cancelItem h).slot i) := by
  unfold State.cancelItem; split
  · exact State.later_of_slots rfl i
  · have hremoved := State.later_of_slots (s.removeEntries_slots (Entry.ofItem h)) i
    rw [State.slot_of_items (State.engineNotice_items _ s), State.slot_setItem]
    split
    · exact ⟨hremoved.gen, fun y hy => by cases hy⟩
    · exact hremoved

theorem State.ItemOp.later (h : s.ItemOp t) (i : Fin 64) : (s.slot i).Later (t.slot i) := by
  cases h with
  | same h => exact State.later_of_slots (congrArg ItemView.slots h) i
  | pass ax => exact s.releasePass_later ax i
  | fire f =>
    unfold State.fireNow; split
    · exact .refl _
    · rename_i n rest _
      have htaken : (s.slot i).Later (({ s with free := rest }.insert f.axis (fireEntry f n)).slot i) :=
        State.later_of_slots (s := s) (State.insert_slots { s with free := rest } f.axis _) i
      exact htaken.trans (State.releasePass_later _ f.axis i)
  | verdict h v tag => exact (s.verdict_handled h v tag).later i
  | cancelItem h => exact s.cancelItem_later h i
  | cancelTag tag =>
    refine State.later_of_slots ?_ i
    exact (congrArg ItemView.slots (State.engineNotice_items _ s)).trans (s.removeEntries_slots _)
  | expire ax p =>
    rw [State.expire_eq]
    have hfreed := State.freeEntries_later (s.setList ax ((s.list ax).filter fun e => decide (e.due ≠ p + 2147483648)))
      (s.expiring ax p) i
    rwa [State.setList_slot] at hfreed

/-- An admission advances the generation of the slot that it takes (R46, R54). -/
theorem State.admitTo_evolves (s : State) (q : AdmissionRequest) (i j : Fin 64) :
    (s.slot j).Evolves 1 ((s.admitTo q i).slot j) := by
  unfold State.admitTo; extract_lets hd h s1 s2
  have hinserted := State.insertEntries_slots s2 hd.axis (s.newEntries q h)
  have hpassed : (s1.slot j).Later _ :=
    (State.later_of_slots hinserted j).trans (State.releasePass_later _ hd.axis j)
  have htaken : s1.slot j = if i = j then { gen := h.gen, item := some (s.newItem q) } else s.slot j :=
    s.slot_setSlot i j _
  rw [htaken] at hpassed
  split at hpassed
  · rename_i hij
    subst hij
    exact ⟨1, le_rfl, hpassed.gen, fun h => absurd h (by decide)⟩
  · exact hpassed.evolves 1

theorem State.ItemOps.evolves {b : Bank} {n : Nat} (h : s.ItemOps b n t) (i : Fin 64) :
    (s.slot i).Evolves n (t.slot i) := by
  induction h with
  | refl n => exact (Slot.Later.refl _).evolves n
  | op _ last ih => exact ih.trans ((last.later i).evolves 0)
  | admission _ _ q j _ _ ih => exact ih.trans (State.admitTo_evolves _ q j i)

/-- Settles O19: a command admits fewer than 256 items, so an item that stands in its slot under its generation is the
item that stood there, and no event on it changes a settled verdict. -/
theorem settledVerdictsDoNotChange : Obligations.SettledVerdictsDoNotChange := by
  intro c s t i x y d h hx hd hy hgen
  cases exec_itemChange h with
  | ops h =>
    obtain ⟨x', hx', hkeeps⟩ := ((h.evolves i).later (by decide) hgen).item y hy
    obtain rfl : x = x' := Option.some.inj (hx.symm.trans hx')
    exact hkeeps d hd
  | clear slots lists => exact absurd ((slots i).symm.trans hy) (by simp)

end Sys2Proof.Machine
end

section
/-!
Pending counts (R50): for every handle, the item that it names against the entries that carry it, inside an operation
as well as between operations.
-/
namespace Sys2Proof.Machine

/-! ### Entries by handle -/

/-- An entry carries one handle at most. -/
theorem Entry.ofItem_inj {e : Entry} {g h : Handle} (hg : e.ofItem g = true) (hh : e.ofItem h = true) : g = h := by
  unfold Entry.ofItem at hg hh
  split at hg <;> simp_all

/-- A host entry of a tag carries no handle. -/
theorem Entry.not_ofTag {e : Entry} {g : Handle} (hg : e.ofItem g = true) (tag : Word) : e.ofTag tag = false := by
  unfold Entry.ofItem at hg
  unfold Entry.ofTag
  split at hg <;> simp_all

variable {s t : State} {ax : Axis} {h : Handle} {es : List Entry} {e : Entry}

theorem State.allEntries_of_lists (hlist : ∀ ax, t.list ax = s.list ax) : t.allEntries = s.allEntries :=
  congrArg₂ (· ++ ·) (congrArg₂ (· ++ ·) (hlist .t) (hlist .e1)) (hlist .e2)

/-- What a list gains, the lists gain. -/
theorem State.countP_setList (s : State) (ax : Axis) (l : List Entry) (p : Entry → Bool) :
    (s.setList ax l).allEntries.countP p + (s.list ax).countP p = s.allEntries.countP p + l.countP p := by
  unfold State.allEntries State.setList State.list
  cases ax <;> simp only [List.countP_append] <;> omega

theorem State.countP_insert (s : State) (ax : Axis) (e : Entry) (p : Entry → Bool) :
    (s.insert ax e).allEntries.countP p = (e :: s.allEntries).countP p := by
  have hset := s.countP_setList ax (insertByLead (s.pos ax) e (s.list ax)) p
  rw [(insertByLead_perm _ e _).countP_eq, List.countP_cons] at hset
  rw [State.insert, List.countP_cons]
  omega

theorem State.removeEntries_allEntries (s : State) (p : Entry → Bool) :
    (s.removeEntries p).allEntries = s.allEntries.filter fun e => !p e := by
  rw [State.removeEntries_eq]
  simp only [State.allEntries, List.filter_append]

/-! ### Handles and slots (R48) -/

/-- A slot written under the handle's generation: that handle names the new item, and every other handle what it named
before, when the slot was FREE or of that generation. -/
theorem State.findItem_setSlot (hold : (s.slot h.slot).gen = h.gen ∨ (s.slot h.slot).item = none) (y : Option Item)
    (g : Handle) :
    (s.setSlot h.slot { gen := h.gen, item := y }).findItem g = if g = h then y else s.findItem g := by
  unfold State.findItem
  rw [State.slot_setSlot]
  by_cases hslot : h.slot = g.slot
  · by_cases hgen : h.gen = g.gen
    · have hgh : g = h := by cases g; cases h; simp_all
      simp [hgh]
    · have hgh : g ≠ h := fun k => hgen (k ▸ rfl)
      rw [hslot] at hold
      rcases hold with hold | hold <;> simp [hslot, hgh, hgen, hold]
  · have hgh : g ≠ h := fun k => hslot (k ▸ rfl)
    simp [hslot, hgh]

/-! ### Items and their counts -/

/-- The item counts `n` entries pending, 1 to 16; no item counts none (R50). -/
def countsPending : Option Item → Nat → Prop
  | some x, n => x.pending = n ∧ 1 ≤ n ∧ n ≤ 16
  | none, n => n = 0

/-- Every handle's item counts the entries of `es` that carry the handle. -/
def State.Counted (s : State) (es : List Entry) : Prop :=
  ∀ h : Handle, countsPending (s.findItem h) (es.countP (Entry.ofItem h))

/-- The statement's invariant, handle by handle. -/
theorem State.counted_iff : s.Counted s.allEntries ↔ s.ItemsSound := by
  have hfind : ∀ i : Fin 64, s.findItem (s.handleOf i) = (s.slot i).item := fun i => if_pos rfl
  constructor
  · intro hs
    refine ⟨fun i x hx => ?_, fun e he => ?_⟩
    · have hcount := hs (s.handleOf i)
      rw [hfind, Option.mem_def.1 hx] at hcount
      obtain ⟨hp, hlow, hhigh⟩ := hcount
      exact ⟨hp, hp ▸ hlow, hp ▸ hhigh⟩
    · split
      · rename_i g step ho
        cases hx : s.findItem g with
        | some x => rfl
        | none =>
          have hcount := hs g
          rw [hx] at hcount
          have hno := List.countP_eq_zero.1 hcount e he
          rw [Entry.ofItem_item ho] at hno
          exact absurd (decide_eq_true rfl) hno
      · trivial
  · rintro ⟨hcounts, hlive⟩ g
    cases hx : s.findItem g with
    | some x =>
      obtain ⟨hgen, hitem⟩ := State.findItem_eq_some.1 hx
      have hg : s.handleOf g.slot = g := by rw [State.handleOf, hgen]
      obtain ⟨hp, hlow, hhigh⟩ := hcounts g.slot x hitem
      rw [hg] at hp
      exact ⟨hp, hp ▸ hlow, hp ▸ hhigh⟩
    | none =>
      refine List.countP_eq_zero.2 fun e he hof => ?_
      have hitem := hlive e he
      cases ho : e.owner with
      | host tag => rw [Entry.ofItem_host ho] at hof; cases hof
      | item k step =>
        rw [Entry.ofItem_item ho] at hof
        simp only [ho, of_decide_eq_true hof, hx] at hitem
        cases hitem

theorem State.Counted.congr {es' : List Entry} (hs : s.Counted es) (hfind : ∀ h, t.findItem h = s.findItem h)
    (hcount : ∀ h, es'.countP (Entry.ofItem h) = es.countP (Entry.ofItem h)) : t.Counted es' := fun h => by
  rw [hfind, hcount]; exact hs h

theorem State.Counted.of_slots (hs : s.Counted es) (hslots : t.slots = s.slots) : t.Counted es :=
  hs.congr (State.findItem_congr hslots) fun _ => rfl

theorem State.Counted.of_items (hs : s.Counted s.allEntries) (h : t.items = s.items) : t.Counted t.allEntries := by
  rw [State.allEntries_of_items h]
  exact hs.of_slots (congrArg ItemView.slots h)

/-- The handling of an item leaves its count. -/
theorem State.Counted.handled (hs : s.Counted es) (h : s.SlotsHandled t) : t.Counted es := fun g => by
  have hg := hs g
  unfold State.findItem at hg ⊢
  generalize ht : t.slot g.slot = b
  cases ht ▸ h g.slot with
  | same => exact hg
  | item hx hxy =>
    dsimp only at hg ⊢
    split at hg <;> rename_i hgen
    · rw [hx] at hg
      rw [if_pos hgen]
      exact ⟨hxy.pending.trans hg.1, hg.2⟩
    · rwa [if_neg hgen]

/-! ### Freeing and insertion (R22, R34, R65) -/

theorem countsPending_lowered {x : Option Item} {k n : Nat} (h : countsPending x (k + n)) :
    countsPending (x.bind (Item.lowered k)) n := by
  cases x with
  | none =>
    have hzero : k + n = 0 := h
    exact (by omega : n = 0)
  | some x =>
    obtain ⟨hp, hlow, hhigh⟩ := h
    show countsPending (x.lowered k) n
    unfold Item.lowered
    by_cases hk : k = 0
    · rw [if_pos hk]; exact ⟨by omega, by omega, by omega⟩
    · rw [if_neg hk]
      by_cases hlt : k < x.pending
      · rw [if_pos hlt]; exact ⟨(by omega : x.pending - k = n), by omega, by omega⟩
      · rw [if_neg hlt]; exact (by omega : n = 0)

/-- Entries in hand are freed. -/
theorem State.Counted.freeEntries {gone : List Entry} (hs : s.Counted (gone ++ es)) :
    (s.freeEntries gone).Counted es := fun g => by
  have hg := hs g
  rw [List.countP_append] at hg
  rw [State.freeEntries_findItem]
  exact countsPending_lowered hg

/-- An entry in hand is inserted. -/
theorem State.Counted.insert {hand : List Entry} (hs : s.Counted (hand ++ e :: s.allEntries)) (ax : Axis) :
    (s.insert ax e).Counted (hand ++ (s.insert ax e).allEntries) :=
  hs.congr (State.findItem_congr (s.insert_slots ax e)) fun g => by
    rw [List.countP_append, List.countP_append, State.countP_insert]

theorem State.Counted.insertEntries (hs : s.Counted (es ++ s.allEntries)) (ax : Axis) :
    (es.foldl (fun s e => s.insert ax e) s).Counted (es.foldl (fun s e => s.insert ax e) s).allEntries := by
  induction es generalizing s with
  | nil => exact hs
  | cons e es ih =>
    refine ih (State.Counted.insert (hand := es) ?_ ax)
    exact hs.congr (fun _ => rfl) fun g => List.perm_middle.countP_eq _

theorem State.freeEntries_allEntries (s : State) (gone : List Entry) : (s.freeEntries gone).allEntries = s.allEntries := by
  rw [State.freeEntries_frame]; rfl

/-! ### The operations -/

/-- A release frees its entry or puts it back (R32, R34). -/
theorem State.Counted.release (hs : s.Counted (e :: s.allEntries)) (ax : Axis) :
    (s.release ax e).Counted (s.release ax e).allEntries := by
  have hacted : ((s.actOn ax e).tellLate ax e).allEntries = s.allEntries :=
    State.allEntries_of_lists fun k => (State.tellLate_list _ ax e k).trans (s.actOn_list ax e k)
  have h := hs.handled (s.acted_handled ax e)
  rw [← hacted] at h
  unfold State.release; dsimp only; split
  · have hfreed := State.Counted.freeEntries (gone := [e]) (es := State.allEntries _) h
    rwa [← State.freeEntries_allEntries _ [e]] at hfreed
  · exact State.Counted.insert (hand := []) (e := e.again) h ax

theorem State.Counted.releasePass (hs : s.Counted s.allEntries) (ax : Axis) :
    (s.releasePass ax).Counted (s.releasePass ax).allEntries :=
  State.releasePass_induct (P := fun s t => s.Counted s.allEntries → t.Counted t.allEntries) (fun _ _ h => h)
    (fun s u e rest hl _ hu h => by
      have htaken : (s.setList ax rest).Counted (e :: (s.setList ax rest).allEntries) :=
        h.congr (s.findItem_setList ax rest) fun g => by
          have hset := s.countP_setList ax rest (Entry.ofItem g)
          rw [hl, List.countP_cons] at hset
          rw [List.countP_cons]; omega
      exact hu (htaken.release ax)) s hs

theorem State.Counted.expire (hs : s.Counted s.allEntries) (ax : Axis) (p : Pos) :
    (s.expire ax p).Counted (s.expire ax p).allEntries := by
  have hfreed : (s.expire ax p).allEntries =
      (s.setList ax ((s.list ax).filter fun e => !Entry.expires p e)).allEntries := State.freeEntries_allEntries _ _
  rw [hfreed]
  refine State.Counted.freeEntries (hs.congr (s.findItem_setList ax _) fun g => ?_)
  have hset := s.countP_setList ax ((s.list ax).filter fun e => !Entry.expires p e) (Entry.ofItem g)
  have hsplit := List.countP_eq_countP_filter_add (s.list ax) (Entry.ofItem g) (Entry.expires p)
  rw [List.countP_append]; omega

/-- The removal of entries none of which carries the handle leaves that handle's count. -/
theorem countP_filter_of_disjoint {p : Entry → Bool} {g : Handle} (hp : ∀ e : Entry, e.ofItem g = true → p e = false) :
    (es.filter fun e => !p e).countP (Entry.ofItem g) = es.countP (Entry.ofItem g) := by
  rw [List.countP_filter]
  refine List.countP_congr fun e _ => ?_
  rw [Bool.and_eq_true, Bool.not_eq_true']
  exact ⟨fun h => h.1, fun h => ⟨h, hp e h⟩⟩

theorem State.Counted.cancelTag (hs : s.Counted s.allEntries) (tag : Word) :
    (s.cancelTag tag).Counted (s.cancelTag tag).allEntries := by
  have hremoved : (s.removeEntries (Entry.ofTag tag)).Counted (s.removeEntries (Entry.ofTag tag)).allEntries := by
    rw [State.removeEntries_allEntries]
    exact hs.congr (State.findItem_congr (s.removeEntries_slots _)) fun g =>
      countP_filter_of_disjoint fun e he => Entry.not_ofTag he tag
  exact hremoved.of_items (State.engineNotice_items _ s)

theorem State.Counted.cancelItem (hs : s.Counted s.allEntries) (h : Handle) :
    (s.cancelItem h).Counted (s.cancelItem h).allEntries := by
  unfold State.cancelItem; split
  · exact hs.of_items (s.offer_items _)
  · rename_i x hx
    refine State.Counted.of_items (s := (s.removeEntries (Entry.ofItem h)).setItem h.slot none) ?_
      (State.engineNotice_items _ s)
    have hslots := s.removeEntries_slots (Entry.ofItem h)
    have hgen : ((s.removeEntries (Entry.ofItem h)).slot h.slot).gen = h.gen := by
      rw [State.slot_congr hslots]; exact (State.findItem_eq_some.1 hx).1
    have hset : (s.removeEntries (Entry.ofItem h)).setItem h.slot none =
        (s.removeEntries (Entry.ofItem h)).setSlot h.slot { gen := h.gen, item := none } := by
      simp only [State.setItem, hgen]
    intro g
    rw [hset, State.findItem_setSlot (.inl hgen), State.findItem_congr hslots]
    have hentries : ((s.removeEntries (Entry.ofItem h)).setSlot h.slot { gen := h.gen, item := none }).allEntries =
        s.allEntries.filter fun e => !Entry.ofItem h e := s.removeEntries_allEntries _
    rw [hentries]
    by_cases hg : g = h
    · subst hg
      rw [if_pos rfl]
      exact List.countP_eq_zero.2 fun e he => by simpa using (List.mem_filter.1 he).2
    · rw [if_neg hg, countP_filter_of_disjoint fun e he => ?_]
      · exact hs g
      · exact Bool.eq_false_iff.2 fun hh => hg (Entry.ofItem_inj he hh)

theorem State.Counted.fireNow (hs : s.Counted s.allEntries) (f : FireFields) :
    (s.fireNow f).Counted (s.fireNow f).allEntries := by
  unfold State.fireNow; split
  · exact hs
  · rename_i n rest _
    have htaken : ({ s with free := rest } : State).Counted ([fireEntry f n] ++ s.allEntries) :=
      hs.congr (fun _ => rfl) fun g => by rw [List.countP_append]; exact Nat.zero_add _
    exact (State.Counted.insertEntries htaken f.axis).releasePass f.axis

theorem State.ItemOp.counted (hs : s.Counted s.allEntries) (h : s.ItemOp t) : t.Counted t.allEntries := by
  cases h with
  | same h => exact hs.of_items h
  | pass ax => exact hs.releasePass ax
  | fire f => exact hs.fireNow f
  | verdict h v tag =>
    rw [State.allEntries_of_lists (State.list_of_schedule (s.verdict_schedule h v tag))]
    exact hs.handled (s.verdict_handled h v tag)
  | cancelItem h => exact hs.cancelItem h
  | cancelTag tag => exact hs.cancelTag tag
  | expire ax p => exact hs.expire ax p

/-! ### Admission (R36, R46, R52, R54) -/

/-- An admission whose checks pass (R52). -/
theorem State.admissionCheck_eq_none {r : Fin 16} (h : s.admissionCheck r = none) :
    s.engine = .run ∧ (s.recipe r).count ≠ 0 ∧ s.lowestFreeSlot ≠ none ∧ (s.recipe r).count ≤ s.free.length := by
  unfold State.admissionCheck at h
  split at h
  · cases h
  split at h
  · cases h
  split at h
  · cases h
  split at h
  · cases h
  rename_i hrun hcount hslot hfree
  exact ⟨not_not.1 hrun, hcount, hslot, Nat.not_lt.1 hfree⟩

/-- Each new entry carries the new item's handle. -/
theorem State.newEntries_ofItem (s : State) (q : AdmissionRequest) (h g : Handle) :
    ∀ e ∈ s.newEntries q h, e.ofItem g = decide (h = g) := by
  intro e he
  obtain ⟨x, -, rfl⟩ := List.mem_map.1 he
  rfl

theorem State.countP_newEntries {q : AdmissionRequest} (hfree : (s.recipe q.recipe).count ≤ s.free.length)
    (h g : Handle) :
    (s.newEntries q h).countP (Entry.ofItem g) = if g = h then (s.recipe q.recipe).count else 0 := by
  have hlength : (s.newEntries q h).length = (s.recipe q.recipe).count := by
    have hnumbers := congrArg List.length (s.newEntries_numbers q h)
    rwa [List.length_map, List.length_take_of_le hfree] at hnumbers
  have hall := s.newEntries_ofItem q h g
  split
  · subst g
    rw [← hlength, List.countP_eq_length]
    exact fun e he => (hall e he).trans (decide_eq_true rfl)
  · rename_i hne
    refine List.countP_eq_zero.2 fun e he hof => hne ?_
    exact (of_decide_eq_true ((hall e he).symm.trans hof)).symm

/-- The new item counts its recipe's steps, and its handle was stale before (R46, R50). -/
theorem State.Counted.admitTo (hs : s.Counted s.allEntries) {q : AdmissionRequest} {i : Fin 64}
    (hcheck : s.admissionCheck q.recipe = none) (hlowest : s.lowestFreeSlot = some i)
    (hbound : (s.recipe q.recipe).count ≤ 16) : (s.admitTo q i).Counted (s.admitTo q i).allEntries := by
  obtain ⟨-, hcount, -, hfree⟩ := State.admissionCheck_eq_none hcheck
  have hitem : (s.slot i).item = none := State.lowestFreeSlot_eq_some hlowest
  unfold State.admitTo; extract_lets hd h s1 s2
  have htaken : s2.Counted (s.newEntries q h ++ s2.allEntries) := by
    intro g
    have hfind : s2.findItem g = if g = h then some (s.newItem q) else s.findItem g :=
      State.findItem_setSlot (h := h) (.inr hitem) (some (s.newItem q)) g
    have hold : s2.allEntries = s.allEntries := rfl
    rw [hfind, List.countP_append, hold, State.countP_newEntries hfree]
    split
    · subst g
      have hstale := hs h
      rw [State.findItem_eq_none.2 (.inl hitem)] at hstale
      have hzero : s.allEntries.countP (Entry.ofItem h) = 0 := hstale
      rw [hzero, Nat.add_zero]
      exact ⟨rfl, by omega, hbound⟩
    · rw [Nat.zero_add]; exact hs g
  exact (State.Counted.insertEntries htaken hd.axis).releasePass hd.axis

theorem State.ItemOps.counted {b : Bank} {n : Nat} (hb : ∀ r : Fin 16, b.headers[r].count ≤ 16)
    (hs : s.Counted s.allEntries) (h : s.ItemOps b n t) : t.Counted t.allEntries := by
  induction h with
  | refl n => exact hs
  | op _ last ih => exact last.counted ih
  | admission _ bank q i check lowest ih => exact ih.admitTo check lowest (by rw [State.recipe, bank]; exact hb _)

/-- The headers of the ACTIVE bank of a sound store name at most 16 steps (R76). -/
theorem State.BanksSound.count_le (h : s.BanksSound) (r : Fin 16) : s.activeBank.headers[r].count ≤ 16 := by
  obtain ⟨h0, h1, -⟩ := h
  have hbank : s.activeBank.Sound := by
    unfold State.activeBank State.bank
    cases s.active
    · exact h0
    · exact h1
  have hwf := hbank r
  simp only [RecipeHeader.wf, Bool.and_eq_true, decide_eq_true_eq] at hwf
  exact hwf.1

theorem State.ItemChange.counted (hb : s.BanksSound) (hs : s.Counted s.allEntries) (h : s.ItemChange t) :
    t.Counted t.allEntries := by
  cases h with
  | ops h => exact h.counted (State.BanksSound.count_le hb) hs
  | clear slots lists =>
    have hnone : t.allEntries = [] := by
      have ht : t.tList = [] := lists .t
      have h1 : t.e1List = [] := lists .e1
      have h2 : t.e2List = [] := lists .e2
      simp [State.allEntries, ht, h1, h2]
    intro g
    rw [hnone, State.findItem_of_free slots]
    exact (rfl : (0 : Nat) = 0)

/-- A step idles, or runs a command on the part with the queue's rest. -/
theorem step_cases (h : step s = .next t) : t = s ∨ ∃ c rest, exec c { s with pending := rest } = .next t := by
  unfold step at h
  split at h
  · cases h; exact .inl rfl
  · exact .inr ⟨_, _, h⟩

/-- Settles O12: every change that a command makes of the items counts for each handle the entries that it gains and
loses. -/
theorem stepKeepsPendingCounts : Obligations.StepKeepsPendingCounts := by
  intro s t hs hb h
  rcases step_cases h with rfl | ⟨c, rest, h⟩
  · exact hs
  · have hcounted : ({ s with pending := rest } : State).Counted s.allEntries := State.counted_iff.2 hs
    exact State.counted_iff.1
      (State.ItemChange.counted (s := { s with pending := rest }) hb hcounted (exec_itemChange h))

end Sys2Proof.Machine
end

section
/-!
The two packets on an item: VERDICT (R58) and CANCEL_ITEM (R68, R69).
-/
namespace Sys2Proof.Machine

variable {s : State}

/-! ### The packets read back -/

@[simp] theorem decodeHandle_word (h : Handle) : decodeHandle h.word = some h := by
  have hslot : h.slot.val % 2 ^ 8 = h.slot.val := Nat.mod_eq_of_lt (by omega)
  have hword : h.word = word h.gen (BitVec.ofNat 8 h.slot.val) := rfl
  rw [decodeHandle, hword, loByte_word, hiByte_word, BitVec.toNat_ofNat, hslot, decodeFin_val]
  rfl

theorem decodeBody_verdict (h : Handle) (v : Verdict) (tag : Word) :
    decodeBody .verdict (Packet.verdict h v tag).body = some (.verdict h v tag) := by
  have hv : (BitVec.ofNat 16 v.code).toNat = v.code := by cases v <;> rfl
  have hf : decodeFields .verdict (Packet.verdict h v tag).body = some (.verdict h v tag) := by
    unfold decodeFields
    simp only [Packet.body, hv, decodeHandle_word, decodeVerdict_code, Option.bind_eq_bind, Option.bind_some]
  simp only [decodeBody, hf, Packet.wf, if_true]

theorem exec_verdict_ready {h : Handle} {v : Verdict} {tag : Word} (hready : s.PacketReady (.verdict h v tag)) :
    exec .verdict s = .next ((s.verdict h v tag).passPacket 3) :=
  congrArg Host.Outcome.next (State.onPacket_ready hready (decodeBody_verdict h v tag) _)

theorem decodeBody_cancelItem (h : Handle) :
    decodeBody .cancelItem (Packet.cancelItem h).body = some (.cancelItem h) := by
  have hf : decodeFields .cancelItem (Packet.cancelItem h).body = some (.cancelItem h) := by
    unfold decodeFields
    simp only [Packet.body, decodeHandle_word, Option.bind_eq_bind, Option.bind_some]
  simp only [decodeBody, hf, Packet.wf, if_true]

theorem exec_cancelItem_ready {h : Handle} (hready : s.PacketReady (.cancelItem h)) :
    exec .cancelItem s = .next ((s.cancelItem h).passPacket 1) :=
  congrArg Host.Outcome.next (State.onPacket_ready hready (decodeBody_cancelItem h) _)

/-! ### VERDICT (R58) -/

/-- Settles O50: the handle stale, the item AWAITING, or DECIDED by its default or by the host. -/
theorem verdictOutcomes : Obligations.VerdictOutcomes := by
  intro s h v tag hready refused
  rw [exec_verdict_ready hready]
  unfold State.verdict
  refine ⟨fun hstale => ?stale, fun x hitem hgen => ?live⟩
  case stale =>
    rw [State.findItem_eq_none.2 hstale]
    rfl
  case live =>
    rw [State.findItem_eq_some.2 ⟨hgen, hitem⟩]
    refine ⟨fun hd => ?awaiting, fun u hd => ?byDefault, fun u hd => ?byHost⟩
    case awaiting =>
      simp only [hd, State.setItem, hgen]
      rfl
    case byDefault => simp only [hd]; rfl
    case byHost => simp only [hd]; rfl

/-! ### CANCEL_ITEM (R41, R68, R69) -/

/-- The part after the item's removal, before the notice (R200). -/
def State.cancelled (s : State) (h : Handle) (x : Item) : State :=
  { s.removeEntries (Entry.ofItem h) with
    slots := s.slots.set h.slot { gen := h.gen, item := none }
    queue := s.queue.offer (itemCancelledReport h x (s.allEntries.countP (Entry.ofItem h))) }

theorem State.cancelItem_eq {h : Handle} {x : Item} (hx : s.findItem h = some x) :
    s.cancelItem h = (s.cancelled h x).engineNotice s := by
  have hgen : (s.slot h.slot).gen = h.gen := (State.findItem_eq_some.1 hx).1
  have hcount : s.countEntries (Entry.ofItem h) = s.allEntries.countP (Entry.ofItem h) := by
    simp only [State.countEntries, State.allEntries, List.countP_append]
  have hremoved : (s.removeEntries (Entry.ofItem h)).slot h.slot = s.slot h.slot :=
    State.slot_congr (s.removeEntries_slots _) _
  unfold State.cancelItem State.cancelled State.setItem State.setSlot
  simp only [hx, hcount, State.offer_slot, hremoved, hgen, State.offer_slots, State.removeEntries_slots,
    State.offer_queue]
  rw [State.removeEntries_eq]
  rfl

/-- Settles O49: the removal of the item and of its entries, and then the notice. -/
theorem cancelItemRemovesTheItem : Obligations.CancelItemRemovesTheItem := by
  intro s h hready
  rw [exec_cancelItem_ready hready]
  refine ⟨fun hstale => ?stale, fun x hx => ?live⟩
  case stale =>
    rw [State.cancelItem, hstale]
    rfl
  case live =>
    have hframe := (s.cancelled h x).engineNotice_frame s
    have hremoved := s.removeEntries_eq (Entry.ofItem h)
    have hbusy : ¬ Claims.PartEmpty s := fun he => by
      rw [State.findItem_of_free he.1] at hx; cases hx
    have hempty : Claims.PartEmpty ((s.cancelItem h).passPacket 1) ↔ Claims.PartEmpty (s.cancelled h x) := by
      rw [State.cancelItem_eq hx, State.passPacket_partEmpty, State.engineNotice_partEmpty]
    have hengine : (s.cancelled h x).engine = s.engine := by rw [State.cancelled, hremoved]
    have htime : (s.cancelled h x).t = s.t := by rw [State.cancelled, hremoved]
    refine ⟨_, rfl, fun ax => ?lists, ?freeCount, ?slots, ?frame, fun hstay => ?stays, fun hq he => ?empties⟩
    case lists =>
      have hlist : (s.cancelled h x).list ax = (s.removeEntries (Entry.ofItem h)).list ax := by cases ax <;> rfl
      rw [State.passPacket_list, State.cancelItem_eq hx, State.engineNotice_list, hlist, State.removeEntries_list]
    case freeCount =>
      rw [← State.removeEntries_freeCount, State.cancelItem_eq hx, hframe]
      rfl
    case slots =>
      rw [State.cancelItem_eq hx, hframe]
      rfl
    case frame =>
      rw [State.cancelItem_eq hx, hframe, State.cancelled, hremoved]
      rfl
    case stays =>
      rw [hempty] at hstay
      rw [State.cancelItem_eq hx, State.engineNotice_stays (by rw [hengine]; exact hstay.imp_right .inl)]
      exact ⟨hengine, rfl⟩
    case empties =>
      rw [State.cancelItem_eq hx, State.engineNotice_empties (hengine.trans hq) (hempty.1 he) hbusy]
      refine ⟨rfl, ?_⟩
      rw [State.passPacket_queue, State.enterQuiesced, State.offer_queue, htime]
      rfl

end Sys2Proof.Machine
end

section
/-!
INJECT_ITEM (R46, R49, R52 to R55): the checks, the admission as one change of the part, and the pass that ends it.
-/
namespace Sys2Proof.Machine

variable {s : State} {r : Fin 16} {i : Fin 64}

/-! ### The packet and its checks (R52, R55) -/

theorem decodeBody_injectItem (r : Fin 16) (backdate tag : Word) :
    decodeBody .injectItem (Packet.injectItem r backdate tag).body = some (.injectItem r backdate tag) := by
  have hr : (BitVec.ofNat 16 r.val).toNat = r.val := Nat.mod_eq_of_lt (by omega)
  have hf : decodeFields .injectItem (Packet.injectItem r backdate tag).body = some (.injectItem r backdate tag) := by
    unfold decodeFields
    simp only [Packet.body, hr, decodeFin_val, Option.bind_eq_bind, Option.bind_some]
  simp only [decodeBody, hf, Packet.wf, if_true]

theorem exec_injectItem_ready {backdate tag : Word} (h : s.PacketReady (.injectItem r backdate tag)) :
    exec .injectItem s = .next ((s.injectItem r backdate tag).passPacket 3) :=
  congrArg Host.Outcome.next (State.onPacket_ready h (decodeBody_injectItem r backdate tag) _)

theorem State.admissionCheck_eq (s : State) (r : Fin 16) : s.admissionCheck r = Claims.refusal s r := by
  unfold State.admissionCheck Claims.refusal State.freeCount
  by_cases hused : ∀ i : Fin 64, (s.slot i).item.isSome = true
  · rw [if_pos hused, if_pos (State.lowestFreeSlot_eq_none.2 hused)]
  · rw [if_neg hused, if_neg (mt State.lowestFreeSlot_eq_none.1 hused)]

/-- The lowest FREE slot is the one that the search finds (R46). -/
theorem State.lowestFreeSlot_of_lowestFree (h : Claims.LowestFree s i) : s.lowestFreeSlot = some i := by
  obtain ⟨hfree, hlower⟩ := h
  unfold State.lowestFreeSlot allSlots
  rw [List.find?_eq_some_iff_getElem]
  refine ⟨by rw [hfree]; rfl, i.val, by simp, by simp, fun j hj => ?_⟩
  have hused := hlower ⟨j, hj.trans i.isLt⟩ hj
  simpa [Option.isSome_iff_ne_none] using hused

/-! ### The entries of the new item (R36, R86, R87) -/

theorem stepEntry_eq {k : Nat} (hk : k < s.free.length) (capture : Pos) (h : Handle) :
    stepEntry (s.activeBank.steps[Fin.ofNat 128 ((s.recipe r).first.val + k)]).step s.free[k] (s.recipe r).axis capture h
      (Fin.ofNat 128 ((s.recipe r).first.val + k)) = Claims.stepToEntry s r capture h k := by
  unfold stepEntry Claims.stepToEntry storedUnit
  dsimp only
  rw [List.getD_eq_getElem _ _ hk]
  generalize (s.activeBank.steps[Fin.ofNat 128 ((s.recipe r).first.val + k)]).step = st
  cases st.action <;> cases (s.recipe r).axis <;> rfl

/-- With enough free entries each step takes the next number (R36). -/
theorem State.newEntries_eq {q : AdmissionRequest} (hfree : (s.recipe q.recipe).count ≤ s.free.length) (h : Handle) :
    s.newEntries q h = Claims.itemEntries s q.recipe q.capture h := by
  unfold State.newEntries Claims.itemEntries
  refine List.ext_getElem ?_ fun k hk _ => ?_
  · simp only [List.length_map, List.length_zip, List.length_take_of_le hfree, stepIndexes_length, Nat.min_self,
      List.length_range]
  · have hk : k < s.free.length := by
      simp only [List.length_map, List.length_zip, List.length_take_of_le hfree, stepIndexes_length,
        Nat.min_self] at hk
      omega
    simp only [List.getElem_map, List.getElem_zip, List.getElem_take, stepIndexes, List.getElem_range]
    exact stepEntry_eq hk _ _

/-! ### The admission as one change of the part (R54) -/

theorem State.insertEntries_eq (s : State) (ax : Axis) (es : List Entry) :
    es.foldl (fun s e => s.insert ax e) s =
      s.setList ax (es.foldl (fun l e => insertByLead (s.pos ax) e l) (s.list ax)) := by
  induction es generalizing s with
  | nil => exact (s.setList_list ax).symm
  | cons e es ih =>
    rw [List.foldl_cons, ih, State.insert_pos, State.insert, State.setList_setList, State.list_setList]
    rfl

/-- Entries inserted one after another keep a list ordered by lead (R21, R22). -/
theorem insertEntries_pairwise {p : Pos} (es : List Entry) {l : List Entry}
    (h : l.Pairwise fun a b => lead p a.due ≤ lead p b.due) :
    (es.foldl (fun l e => insertByLead p e l) l).Pairwise fun a b => lead p a.due ≤ lead p b.due := by
  induction es generalizing l with
  | nil => exact h
  | cons e es ih => exact ih (insertByLead_pairwise h)

/-- The part with slot `i` and the lowest free entries taken: nothing is inserted yet. -/
def State.taken (s : State) (q : AdmissionRequest) (i : Fin 64) : State :=
  { s with
    slots := s.slots.set i { gen := (s.slot i).gen + 1, item := some (s.newItem q) }
    free := s.free.drop (s.recipe q.recipe).count }

theorem State.taken_pos (q : AdmissionRequest) (i : Fin 64) (ax : Axis) : (s.taken q i).pos ax = s.pos ax := by
  cases ax <;> rfl

theorem State.taken_list (q : AdmissionRequest) (i : Fin 64) (ax : Axis) : (s.taken q i).list ax = s.list ax := by
  cases ax <;> rfl

/-- The part after an admission to slot `i`, before its own pass: the statement's term for a request. -/
def State.admittedTo (s : State) (q : AdmissionRequest) (i : Fin 64) : State :=
  Claims.admitted s q.recipe q.origin q.tag q.capture i

section Admitted

variable {q : AdmissionRequest}

/-- The entries that the admission inserts (R36). -/
def State.entriesTo (s : State) (q : AdmissionRequest) (i : Fin 64) : List Entry :=
  Claims.itemEntries s q.recipe q.capture { gen := (s.slot i).gen + 1, slot := i }

theorem State.admittedTo_eq_insert (s : State) (q : AdmissionRequest) (i : Fin 64) :
    s.admittedTo q i =
      (s.entriesTo q i).foldl (fun u e => u.insert (s.recipe q.recipe).axis e) (s.taken q i) := by
  rw [State.insertEntries_eq, State.taken_pos, State.taken_list]
  rfl

theorem State.admitItem_eq (hcheck : s.admissionCheck q.recipe = none) (hi : s.lowestFreeSlot = some i) :
    s.admitItem q = (s.admittedTo q i).releasePass (s.recipe q.recipe).axis := by
  obtain ⟨-, -, -, hfree⟩ := State.admissionCheck_eq_none hcheck
  rw [State.admitItem, hi, State.admittedTo_eq_insert, State.entriesTo, ← State.newEntries_eq hfree]
  rfl

theorem State.admittedTo_pos (ax : Axis) : (s.admittedTo q i).pos ax = s.pos ax := by
  rw [State.admittedTo_eq_insert, State.insertEntries_eq, State.setList_pos, State.taken_pos]

theorem State.admittedTo_list_of_ne {other : Axis} (h : other ≠ (s.recipe q.recipe).axis) :
    (s.admittedTo q i).list other = s.list other := by
  rw [State.admittedTo_eq_insert, State.insertEntries_eq, State.list_setList_of_ne _ h, State.taken_list]

/-- The admission changes the slots, the free list and the recipe's list and nothing else (R54). -/
theorem State.admittedTo_restored :
    { s.admittedTo q i with
      tList := s.tList, e1List := s.e1List, e2List := s.e2List, free := s.free, slots := s.slots } = s := by
  rw [State.admittedTo_eq_insert, State.insertEntries_eq]
  cases (s.recipe q.recipe).axis <;> rfl

theorem State.admittedTo_engine : (s.admittedTo q i).engine = s.engine := by
  rw [State.admittedTo_eq_insert, State.insertEntries_eq, State.setList_engine]; rfl

/-- The insertion of an entry not yet due leaves a list that owes no release owing none (R22, R24). -/
theorem State.ListQuiet.insert {ax : Axis} {e : Entry} (hq : s.ListQuiet ax)
    (he : reached (s.pos ax) e.due = false) : (s.insert ax e).ListQuiet ax := by
  unfold State.ListQuiet at hq ⊢
  rw [State.insert_pos, State.insert, State.list_setList]
  cases hl : s.list ax with
  | nil => exact he
  | cons x xs =>
    simp only [hl] at hq
    by_cases hle : lead (s.pos ax) x.due ≤ lead (s.pos ax) e.due
    · rw [insertByLead, if_pos hle]; exact hq
    · rw [insertByLead, if_neg hle]; exact he

/-- Due positions do not depend on the new item's handle. -/
theorem State.entriesTo_unreached (h : Claims.NothingDue s q.recipe q.capture) :
    ∀ e ∈ s.entriesTo q i, reached (s.pos (s.recipe q.recipe).axis) e.due = false := by
  intro e he
  obtain ⟨k, hk, rfl⟩ := List.mem_map.1 he
  exact h.2 (Claims.stepToEntry s q.recipe q.capture { gen := 0, slot := 0 } k) (List.mem_map.2 ⟨k, hk, rfl⟩)

/-- An admission of an item of which nothing is due, to a list that owes no release. -/
theorem State.admittedTo_listQuiet (h : Claims.NothingDue s q.recipe q.capture) :
    (s.admittedTo q i).ListQuiet (s.recipe q.recipe).axis := by
  have htaken : (s.taken q i).ListQuiet (s.recipe q.recipe).axis := by
    unfold State.ListQuiet
    rw [State.taken_list, State.taken_pos]
    exact h.1
  rw [State.admittedTo_eq_insert]
  refine (List.foldlRecOn
    (motive := fun u : State => u.ListQuiet (s.recipe q.recipe).axis ∧ ∀ ax, u.pos ax = s.pos ax)
    _ _ ⟨htaken, State.taken_pos q i⟩ fun u hu e he => ⟨hu.1.insert ?_, fun ax => ?_⟩).1
  · rw [hu.2]; exact State.entriesTo_unreached h e he
  · rw [State.insert_pos, hu.2]

theorem State.admittedTo_inLeadOrder (h : s.InLeadOrder (s.recipe q.recipe).axis) :
    (s.admittedTo q i).InLeadOrder (s.recipe q.recipe).axis := by
  unfold State.InLeadOrder
  rw [State.admittedTo_pos, State.admittedTo_eq_insert, State.insertEntries_eq, State.list_setList, State.taken_pos,
    State.taken_list]
  exact insertEntries_pairwise _ h

end Admitted

/-! ### INJECT_ITEM (R53, R55) -/

/-- The request that an INJECT_ITEM makes (R55). -/
def State.injectRequest (s : State) (r : Fin 16) (backdate tag : Word) : AdmissionRequest :=
  { origin := .host, recipe := r, tag := some tag, capture := s.pos (s.recipe r).axis - backdate.setWidth 32 }

theorem State.injectItem_accepted (hnone : Claims.refusal s r = none) (hi : s.lowestFreeSlot = some i)
    (backdate tag : Word) :
    s.injectItem r backdate tag =
      (s.admittedTo (s.injectRequest r backdate tag) i).releasePass (s.recipe r).axis := by
  rw [← State.admissionCheck_eq] at hnone
  unfold State.injectItem
  rw [hnone]
  exact State.admitItem_eq (q := s.injectRequest r backdate tag) hnone hi

/-- Settles O51: the packet is the pass on `State.admittedTo`, of which each clause is one property. -/
theorem injectItemAdmitsOrRefuses : Obligations.InjectItemAdmitsOrRefuses := by
  intro s r backdate tag hready
  rw [exec_injectItem_ready hready]
  refine ⟨fun reason hreason => ?refused, fun i hnone hlowest hahead => ?waits, fun i hnone hlowest => ?general,
    fun hnone hordered => ?leavesNothingDue⟩
  case refused =>
    rw [State.injectItem, State.admissionCheck_eq, hreason]
    rfl
  case waits =>
    have hquiet : (s.admittedTo (s.injectRequest r backdate tag) i).ListQuiet (s.recipe r).axis :=
      State.admittedTo_listQuiet (q := s.injectRequest r backdate tag) hahead
    rw [State.injectItem_accepted hnone (State.lowestFreeSlot_of_lowestFree hlowest), State.releasePass_quiet hquiet]
    rfl
  case general =>
    have hrun := (State.admissionCheck_eq_none ((s.admissionCheck_eq r).trans hnone)).1
    have hevent : (s.admittedTo (s.injectRequest r backdate tag) i).passEvent (s.recipe r).axis =
        (s.admittedTo (s.injectRequest r backdate tag) i).releasePass (s.recipe r).axis := by
      refine State.engineNotice_stays (.inl ?_)
      rw [State.releasePass_engine, State.admittedTo_engine, hrun]
      exact EngineState.noConfusion
    refine ⟨(s.admittedTo (s.injectRequest r backdate tag) i).passEvent (s.recipe r).axis, rfl, ?_⟩
    rw [State.injectItem_accepted hnone (State.lowestFreeSlot_of_lowestFree hlowest), hevent]
  case leavesNothingDue =>
    obtain ⟨-, -, hslot, -⟩ := State.admissionCheck_eq_none ((s.admissionCheck_eq r).trans hnone)
    obtain ⟨i, hi⟩ := Option.ne_none_iff_exists'.1 hslot
    have hadmitted : (s.admittedTo (s.injectRequest r backdate tag) i).InLeadOrder (s.recipe r).axis :=
      State.admittedTo_inLeadOrder (q := s.injectRequest r backdate tag) hordered
    refine ⟨_, rfl, ?_, fun other hother => ?_, ?_⟩ <;> rw [State.injectItem_accepted hnone hi]
    · have hall := hadmitted.releasePass_unreached
      rw [State.admittedTo_pos] at hall
      rwa [State.passPacket_list]
    · rw [State.passPacket_list, State.releasePass_list_of_ne _ hother]
      exact State.admittedTo_list_of_ne (q := s.injectRequest r backdate tag) hother
    · have hpass := congrArg (fun u : State =>
          { u with
            tList := s.tList, e1List := s.e1List, e2List := s.e2List, free := s.free, slots := s.slots
            lines := s.lines, queue := s.queue, ring := s.ring, parser := s.parser })
        (State.releasePass_restored (s.admittedTo (s.injectRequest r backdate tag) i) (s.recipe r).axis)
      exact hpass.trans (congrArg (fun u : State =>
          { u with lines := s.lines, queue := s.queue, ring := s.ring, parser := s.parser })
        (State.admittedTo_restored (q := s.injectRequest r backdate tag) (i := i)))

end Sys2Proof.Machine
end

section
/-!
The frame of the rows that act on the Schedule, the items, the detectors, the lines and the parser: axes, banks, the
interrupt block, the host bus and the ring's words stay.
-/
namespace Sys2Proof

/-- The rows that can change an axis, a bank, the FB levels, the interrupt block, the host bus or the ring beyond its
read index. -/
def Instr.actsOnFixed : Instr → Bool
  | .hardwareReset _ _ _ _ | .tick _ | .quadTransition _ _ | .configAxis | .presetAxis | .writeRecipe | .writeSteps
  | .copyBank | .switchBank | .ringReset | .engineReset | .ringData _ | .ringPublish _ | .ringWithdraw _
  | .irqStatusWrite _ | .irqEnableWrite _ | .reportWatermarkWrite _ | .ringSpaceLevelWrite _ | .posSelectWrite _
  | .lineSelectWrite _ | .posLowRead | .registerWriteIgnored _ _ => true
  | _ => false

end Sys2Proof

namespace Sys2Proof.Machine

variable (s : State)

/-! ### The packets of the lines (R107 to R112) -/

theorem State.forLines_outside (mask : Word) {act : State → Fin 16 → State}
    (h : ∀ (t : State) n, t.SameOutside (act t n)) : s.SameOutside (s.forLines mask act) :=
  s.eachLine_outside (f := fun s n => if mask.getLsbD n.val then act s n else s) fun t n => by
    split
    · exact h t n
    · exact .refl t

theorem State.armLine_outside (n : Fin 16) : s.SameOutside (s.armLine n) := by
  unfold State.armLine; dsimp only; split
  · exact s.setLine_outside _ _
  · exact s.offer_outside _
  · exact .refl s

theorem State.disarmLine_outside (n : Fin 16) : s.SameOutside (s.disarmLine n) := by
  unfold State.disarmLine; split
  · exact .refl s
  · exact ((s.offerFireDone_outside n _ _).trans (State.offerSlotDrop_outside _ n _)).trans
      (State.setLine_outside _ _ _)
  · exact (s.offerSlotDrop_outside n _).trans (State.setLine_outside _ _ _)

theorem State.clearLineFault_outside (n : Fin 16) : s.SameOutside (s.clearLineFault n) := by
  unfold State.clearLineFault; dsimp only; split
  · exact (s.setLine_outside _ _).trans (State.offer_outside _ _)
  · exact s.offer_outside _

theorem State.forceLineOff_outside (n : Fin 16) : s.SameOutside (s.forceLineOff n) := by
  unfold State.forceLineOff; split
  · exact s.endPulse_outside _ _ _
  · exact .refl s

theorem State.configLine_outside (n : Fin 16) (cfg : LineConfig) (mon : MonitorConfig) :
    s.SameOutside (s.configLine n cfg mon) := by
  unfold State.configLine; dsimp only; split
  · exact s.setLine_outside _ _
  · exact s.offer_outside _

/-! ### The packets of the items and of the Schedule (R38, R40, R55, R58, R68) -/

theorem State.injectItem_outside (r : Fin 16) (backdate tag : Word) :
    s.SameOutside (s.injectItem r backdate tag) := by
  unfold State.injectItem; split
  · exact s.offer_outside _
  · exact s.admitItem_outside _

theorem State.verdict_outside (h : Handle) (v : Verdict) (tag : Word) : s.SameOutside (s.verdict h v tag) := by
  unfold State.verdict; repeat' split
  · exact s.offer_outside _
  · exact s.setItem_outside _ _
  · exact s.offer_outside _
  · exact s.offer_outside _

theorem State.cancelItem_outside (h : Handle) : s.SameOutside (s.cancelItem h) := by
  unfold State.cancelItem; split
  · exact s.offer_outside _
  · exact (((s.removeEntries_outside _).trans (State.offer_outside _ _)).trans
      (State.setItem_outside _ _ _)).trans (State.engineNotice_outside _ _)

theorem State.cancelTag_outside (tag : Word) : s.SameOutside (s.cancelTag tag) :=
  (s.removeEntries_outside _).trans (State.engineNotice_outside _ _)

theorem State.scheduleFire_outside (f : FireFields) : s.SameOutside (s.scheduleFire f) := by
  unfold State.scheduleFire; split
  · exact s.offer_outside _
  · unfold State.fireNow; split
    · exact .refl s
    · exact (State.SameOutside.trans (.of_eq rfl) (State.insert_outside _ _ _)).trans
        (State.releasePass_outside _ _)

/-! ### The parser and Engine Control (R168, R171, R177, R178, R182, R199) -/

theorem State.setParser_fixed (st : ParserState) : s.SameFixed (s.setParser st) := by constructor <;> rfl

theorem State.takeFence_fixed (f : FenceFields) (len : Nat) : s.SameFixed (s.takeFence f len) := by
  unfold State.takeFence; split
  · exact s.passPacket_fixed len
  · exact s.setParser_fixed _

theorem State.takeHeader_fixed : s.SameFixed s.takeHeader := by
  unfold State.takeHeader; dsimp only; repeat' split
  · exact s.setParser_fixed _
  · exact s.halt_fixed _
  · exact .refl s
  · exact .refl s

theorem State.startParser_fixed : s.SameFixed s.startParser := by
  unfold State.startParser; split
  · exact s.setParser_fixed _
  · exact s.setParser_fixed _
  · exact .refl s
  · exact .refl s

theorem State.stopParser_fixed : s.SameFixed s.stopParser := by
  unfold State.stopParser; split
  · exact s.setParser_fixed _
  · exact s.setParser_fixed _
  · exact .refl s
  · exact .refl s

theorem State.resync_fixed (w : Word) : s.SameFixed (s.resync w) := by
  unfold State.resync; split
  · constructor <;> rfl
  · exact .refl s

theorem State.quiesce_outside : s.SameOutside s.quiesce := by
  unfold State.quiesce; repeat' split
  · exact .of_eq rfl
  · exact .of_eq rfl
  · exact .refl s
  · exact .refl s

/-! ### Rows -/

/-- Every row that does not act on the fixed blocks leaves them as they are. -/
theorem exec_sameFixed {c : Instr} {s t : State} (h : exec c s = .next t) (hc : c.actsOnFixed = false) :
    s.SameFixed t := by
  have hpass := fun {u : State} (len : Nat) (hu : s.SameOutside u) =>
    hu.toSameFixed.trans (u.passPacket_fixed len)
  cases c
  case hardwareReset | tick | quadTransition | configAxis | presetAxis | writeRecipe | writeSteps | copyBank
      | switchBank | ringReset | engineReset | ringData | ringPublish | ringWithdraw | irqStatusWrite | irqEnableWrite
      | reportWatermarkWrite | ringSpaceLevelWrite | posSelectWrite | lineSelectWrite | posLowRead
      | registerWriteIgnored => cases hc
  case detectorEdge | qualificationComplete | lockoutEnd | configDetector | enable | disable =>
    exact exec_detectorRow_fixed h (by simp)
  all_goals cases h
  case scheduleReleasePass ax => exact (s.passEvent_outside ax).toSameFixed
  case pulseEnd n => exact (s.pulseEnd_outside n).toSameFixed
  case maxOnExpiry n => exact (s.maxOnExpiry_outside n).toSameFixed
  case recoveryEnd n => exact (s.recoveryEnd_outside n).toSameFixed
  case monitorSample n => exact (s.monitorSample_outside n).toSameFixed
  case fenceNotice => exact s.fenceNotice_fixed
  case fenceTimeout => exact s.fenceTimeout_fixed
  case parserTakeHeader => exact s.takeHeader_fixed
  case pad => exact s.onPacket_fixed _ fun len _ => s.passPacket_fixed len
  case mark =>
    exact s.onPacket_fixed _ fun len p => by
      split
      exacts [hpass len (s.offer_outside _), .refl s]
  case fence =>
    exact s.onPacket_fixed _ fun len p => by
      split
      exacts [s.takeFence_fixed _ len, .refl s]
  case configLine =>
    exact s.onPacket_fixed _ fun len p => by
      split
      exacts [hpass len (s.configLine_outside _ _ _), .refl s]
  case arm =>
    exact s.onPacket_fixed _ fun len p => by
      split
      exacts [hpass len (s.forLines_outside _ State.armLine_outside), .refl s]
  case disarm =>
    exact s.onPacket_fixed _ fun len p => by
      split
      exacts [hpass len (s.forLines_outside _ State.disarmLine_outside), .refl s]
  case clearFault =>
    exact s.onPacket_fixed _ fun len p => by
      split
      exacts [hpass len (s.forLines_outside _ State.clearLineFault_outside), .refl s]
  case forceOff =>
    exact s.onPacket_fixed _ fun len p => by
      split
      exacts [hpass len (s.forLines_outside _ State.forceLineOff_outside), .refl s]
  case injectItem =>
    exact s.onPacket_fixed _ fun len p => by
      split
      exacts [hpass len (s.injectItem_outside _ _ _), .refl s]
  case verdict =>
    exact s.onPacket_fixed _ fun len p => by
      split
      exacts [hpass len (s.verdict_outside _ _ _), .refl s]
  case cancelItem =>
    exact s.onPacket_fixed _ fun len p => by
      split
      exacts [hpass len (s.cancelItem_outside _), .refl s]
  case scheduleFire =>
    exact s.onPacket_fixed _ fun len p => by
      split
      exacts [hpass len (s.scheduleFire_outside _), .refl s]
  case cancelTag =>
    exact s.onPacket_fixed _ fun len p => by
      split
      exacts [hpass len (s.cancelTag_outside _), .refl s]
  case startParser => exact s.startParser_fixed
  case stopParser => exact s.stopParser_fixed
  case resync w => exact s.resync_fixed w
  case quiesce => exact s.quiesce_outside.toSameFixed
  case resume => exact (State.SameOutside.of_eq rfl).toSameFixed
  case reportPop w => exact (State.SameOutside.of_eq rfl).toSameFixed

end Sys2Proof.Machine
end

section
/-!
The Recipe Store under every command: what each row makes of the two banks and of the active bank number, and with it
the completeness of the ACTIVE bank (R75, R76, R83).
-/
namespace Sys2Proof.Machine

/-- The Recipe Store: the two banks and the active bank number (R75). -/
@[ext] structure StoreView where
  bank : BankId → Bank
  active : BankId

/-- The Recipe Store of the part. -/
def State.store (s : State) : StoreView := { bank := s.bank, active := s.active }

variable {s t : State}

/-! ### Reads of the store -/

theorem State.bank_of_store (h : t.store = s.store) (b : BankId) : t.bank b = s.bank b :=
  congrArg (fun v => v.bank b) h

theorem State.active_of_store (h : t.store = s.store) : t.active = s.active := congrArg StoreView.active h

theorem State.activeBank_of_store (h : t.store = s.store) : t.activeBank = s.activeBank := by
  rw [State.activeBank, State.active_of_store h, State.bank_of_store h]; rfl

theorem State.stagingBank_of_store (h : t.store = s.store) : t.stagingBank = s.stagingBank := by
  rw [State.stagingBank, State.active_of_store h, State.bank_of_store h]; rfl

/-- Two banks, by their roles and by their numbers. -/
theorem State.forall_bank_iff (s : State) (P : Bank → Prop) :
    (∀ b, P (s.bank b)) ↔ P s.activeBank ∧ P s.stagingBank := by
  unfold State.activeBank State.stagingBank
  refine ⟨fun h => ⟨h _, h _⟩, fun ⟨ha, hs⟩ b => ?_⟩
  cases hact : s.active <;> rw [hact] at ha hs <;> cases b <;> assumption

theorem State.banksSound_iff (s : State) :
    s.BanksSound ↔ s.activeBank.Sound ∧ s.stagingBank.Sound ∧ s.activeBank.validate = none := by
  rw [← and_assoc, ← State.forall_bank_iff s Bank.Sound]
  refine ⟨fun ⟨h0, h1, hv⟩ => ⟨fun b => ?_, hv⟩, fun ⟨h, hv⟩ => ⟨h .bank0, h .bank1, hv⟩⟩
  cases b
  · exact h0
  · exact h1

/-! ### The STAGING bank replaced (R75) -/

section Staging

variable (s) (b : Bank)

theorem State.setStaging_active : (s.setStaging b).active = s.active := s.setBank_active _ b

theorem State.setStaging_activeBank : (s.setStaging b).activeBank = s.activeBank := by
  rw [State.activeBank, State.setStaging_active]
  exact s.bank_setBank_other s.active b

theorem State.setStaging_stagingBank : (s.setStaging b).stagingBank = b := by
  rw [State.stagingBank, State.setStaging_active]
  exact s.bank_setBank s.active.other b

end Staging

/-! ### Updates that leave the store -/

theorem State.SameFixed.store_eq (h : s.SameFixed t) : t.store = s.store := by
  refine StoreView.ext (funext fun b => ?_) h.active
  cases b
  · exact h.bank0
  · exact h.bank1

theorem State.setEncAxis_store (s : State) (enc : Enc) (a : EncAxis) : (s.setEncAxis enc a).store = s.store := by
  cases enc <;> rfl

theorem State.tick_store (s : State) (fb : Word) : (s.tick fb).store = s.store := by
  rw [← s.settleAll_fixed.store_eq]
  unfold State.tick
  generalize s.settleAll = u
  rfl

theorem State.advance_store (s : State) (enc : Enc) : (s.advance enc).store = s.store :=
  (State.setEncAxis_store _ enc _).trans (s.settleAxis_fixed enc).store_eq

theorem State.backwardChange_store (s : State) (enc : Enc) : (s.backwardChange enc).store = s.store := by
  rw [State.backwardChange_eq rfl, ← (s.settleAxis_fixed enc).store_eq]
  generalize s.settleAxis enc = u
  refine ((State.expire_outside _ _ _).trans (State.engineNotice_outside _ _)).toSameFixed.store_eq.trans ?_
  exact u.setEncAxis_store enc _

theorem State.quadTransition_store (s : State) (enc : Enc) (ph : Phases) :
    (s.quadTransition enc ph).store = s.store := by
  rcases State.quadTransition_cases (s := s) (enc := enc) rfl ph with ⟨-, h⟩ | ⟨-, h⟩ | ⟨-, h⟩ <;> rw [h]
  · exact s.setEncAxis_store enc _
  · exact (State.advance_store _ enc).trans (s.setEncAxis_store enc _)
  · exact (State.backwardChange_store _ enc).trans (s.setEncAxis_store enc _)

theorem State.configAxis_store (s : State) (enc : Enc) (c : AxisSettings) : (s.configAxis enc c).store = s.store := by
  unfold State.configAxis; dsimp only; repeat' split
  · rfl
  · exact s.setEncAxis_store enc _
  · rfl

theorem State.presetAxis_store (s : State) (enc : Enc) (p : Pos) : (s.presetAxis enc p).store = s.store := by
  unfold State.presetAxis; dsimp only; split
  · rfl
  · exact s.setEncAxis_store enc _

theorem State.ringData_store (s : State) (w : Word) : (s.ringData w).store = s.store := by
  unfold State.ringData; split <;> rfl

theorem State.irqStatusWrite_store (s : State) (w : Word) : (s.irqStatusWrite w).store = s.store := by
  unfold State.irqStatusWrite; split <;> rfl

theorem State.watermarkWrite_store (s : State) (w : Word) : (s.watermarkWrite w).store = s.store := by
  unfold State.watermarkWrite; split <;> rfl

theorem State.spaceLevelWrite_store (s : State) (w : Word) : (s.spaceLevelWrite w).store = s.store := by
  unfold State.spaceLevelWrite; split <;> rfl

theorem State.posSelectWrite_store (s : State) (w : Word) : (s.posSelectWrite w).store = s.store := by
  unfold State.posSelectWrite; split <;> rfl

theorem State.lineSelectWrite_store (s : State) (w : Word) : (s.lineSelectWrite w).store = s.store := by
  unfold State.lineSelectWrite; split <;> rfl

theorem State.command_store (s : State) (c : Command) : (s.command c).store = s.store := by
  cases c with
  | startParser => exact s.startParser_fixed.store_eq
  | stopParser => exact s.stopParser_fixed.store_eq
  | ringReset => rfl
  | quiesce => exact s.quiesce_outside.store_eq
  | resume => rfl
  | engineReset => rfl

/-- No write to the register window reaches the store (R75, R88). -/
theorem State.busWrite_store (s : State) (offset : BitVec 5) (w : Word) : (s.busWrite offset w).store = s.store := by
  unfold State.busWrite; split
  · split
    · exact s.command_store _
    · rfl
  · exact s.ringData_store w
  · rfl
  · rfl
  · exact (s.resync_fixed w).store_eq
  · exact s.spaceLevelWrite_store w
  · exact s.irqStatusWrite_store w
  · rfl
  · exact s.watermarkWrite_store w
  · rfl
  · exact s.posSelectWrite_store w
  · exact s.lineSelectWrite_store w
  · rfl

/-- The two outcomes of SWITCH_BANK on the store (R82, R83). -/
theorem State.switchBank_store (s : State) :
    s.switchBank.store = s.store ∨
      s.stagingBank.validate = none ∧ s.switchBank.store = { s.store with active := s.active.other } := by
  unfold State.switchBank; split
  · exact .inl rfl
  · exact .inr ⟨‹_›, rfl⟩

/-! ### All that a command makes of the store -/

/-- What a command other than HARDWARE_RESET makes of the Recipe Store: nothing, a STAGING bank whose headers are in
range where those of both banks were, or the roles exchanged on a complete STAGING bank (R75). -/
inductive State.StoreChange (s : State) : Instr → State → Prop
  | same {c : Instr} {t : State} (store : t.store = s.store) : StoreChange s c t
  | staged {c : Instr} {t : State} (b : Bank) (store : t.store = (s.setStaging b).store)
      (sound : s.activeBank.Sound → s.stagingBank.Sound → b.Sound) : StoreChange s c t
  | switched {t : State} (complete : s.stagingBank.validate = none)
      (store : t.store = { s.store with active := s.active.other }) : StoreChange s .switchBank t

/-- A header in range put in the place of one leaves every header in range (R78). -/
theorem Bank.Sound.set_header {b : Bank} (hb : b.Sound) (r : Fin 16) {h : RecipeHeader} (hh : h.wf = true) :
    Bank.Sound { b with headers := b.headers.set r h } := fun j => by
  have hget : (b.headers.set r h)[j] = if r.val = j.val then h else b.headers[j] := Vector.getElem_set ..
  rw [hget]
  split
  · exact hh
  · exact hb j

/-- A packet whose owner leaves the store. -/
theorem State.onPacket_sameStore {c : Instr} (kind : PacketKind) {take : Nat → Packet → State}
    (h : ∀ len p, (take len p).store = s.store) : s.StoreChange c (s.onPacket kind take) :=
  State.onPacket_induct (P := s.StoreChange c) (.same rfl) (.same rfl) fun len p _ => .same (h len p)

/-- The rows that act on the fixed blocks, HARDWARE_RESET apart, make one of these changes. -/
theorem exec_storeChange_of_actsOnFixed {c : Instr} (h : exec c s = .next t)
    (hc : ∀ p q di fb, c ≠ .hardwareReset p q di fb) (hi : c.actsOnFixed = true) : s.StoreChange c t := by
  cases c
  case hardwareReset p q di fb => exact absurd rfl (hc p q di fb)
  case tick fb =>
    obtain rfl : s.tick fb = t := Host.Outcome.next.inj h
    exact .same (s.tick_store fb)
  all_goals cases h
  case quadTransition enc ph => exact .same (s.quadTransition_store enc ph)
  case configAxis =>
    exact State.onPacket_sameStore _ fun len p => by
      split
      exacts [s.configAxis_store _ _, rfl]
  case presetAxis =>
    exact State.onPacket_sameStore _ fun len p => by
      split
      exacts [s.presetAxis_store _ _, rfl]
  case writeRecipe =>
    refine State.onPacket_induct (P := s.StoreChange _) (.same rfl) (.same rfl) fun len p hp => ?_
    split
    · exact .staged _ rfl fun _ hs => hs.set_header _ (decodeBody_wf hp)
    · exact .same rfl
  case writeSteps =>
    refine State.onPacket_induct (P := s.StoreChange _) (.same rfl) (.same rfl) fun len p _ => ?_
    split
    · exact .staged _ rfl fun _ hs => hs
    · exact .same rfl
  case copyBank =>
    exact State.onPacket_induct (P := s.StoreChange _) (.same rfl) (.same rfl) fun len p _ =>
      .staged _ rfl fun ha _ => ha
  case switchBank =>
    refine State.onPacket_induct (P := s.StoreChange _) (.same rfl) (.same rfl) fun len p _ => ?_
    rcases s.switchBank_store with hstore | ⟨hcomplete, hstore⟩
    · exact .same hstore
    · exact .switched hcomplete hstore
  case ringData w => exact .same (s.ringData_store w)
  case irqStatusWrite w => exact .same (s.irqStatusWrite_store w)
  case reportWatermarkWrite w => exact .same (s.watermarkWrite_store w)
  case ringSpaceLevelWrite w => exact .same (s.spaceLevelWrite_store w)
  case posSelectWrite w => exact .same (s.posSelectWrite_store w)
  case lineSelectWrite w => exact .same (s.lineSelectWrite_store w)
  case registerWriteIgnored o w => exact .same (s.busWrite_store o w)
  case ringReset | engineReset | ringPublish | ringWithdraw | irqEnableWrite | posLowRead => exact .same rfl
  all_goals cases hi

/-- Every command but HARDWARE_RESET makes one of these changes. -/
theorem exec_storeChange {c : Instr} (h : exec c s = .next t) (hc : ∀ p q di fb, c ≠ .hardwareReset p q di fb) :
    s.StoreChange c t := by
  cases hi : c.actsOnFixed with
  | false => exact .same (exec_sameFixed h hi).store_eq
  | true => exact exec_storeChange_of_actsOnFixed h hc hi

/-! ### The ACTIVE bank stays complete (R76, R83) -/

theorem State.StoreChange.keeps_banksSound {c : Instr} (hs : s.BanksSound) (h : s.StoreChange c t) :
    t.BanksSound := by
  rw [State.banksSound_iff] at hs ⊢
  obtain ⟨hactive, hstaging, hcomplete⟩ := hs
  cases h with
  | same hstore =>
    rw [State.activeBank_of_store hstore, State.stagingBank_of_store hstore]
    exact ⟨hactive, hstaging, hcomplete⟩
  | staged b hstore hsound =>
    rw [State.activeBank_of_store hstore, State.stagingBank_of_store hstore, State.setStaging_activeBank,
      State.setStaging_stagingBank]
    exact ⟨hactive, hsound hactive hstaging, hcomplete⟩
  | switched hvalid hstore =>
    have ha : t.activeBank = s.stagingBank := congrArg (fun v => v.bank v.active) hstore
    have hst : t.stagingBank = s.bank s.active.other.other := congrArg (fun v => v.bank v.active.other) hstore
    have hother : s.active.other.other = s.active := by cases s.active <;> rfl
    rw [ha, hst, hother]
    exact ⟨hstaging, hactive, hvalid⟩

theorem exec_keeps_banksSound (c : Instr) (s t : State) (hs : s.BanksSound) (h : exec c s = .next t) :
    t.BanksSound := by
  by_cases hc : ∀ p q di fb, c ≠ .hardwareReset p q di fb
  · exact (exec_storeChange h hc).keeps_banksSound hs
  · simp only [not_forall, not_not] at hc
    obtain ⟨p, q, di, fb, rfl⟩ := hc
    cases h
    exact ⟨Bank.reset_sound, Bank.reset_sound, Bank.validate_reset⟩

/-- Settles O13: a bank becomes ACTIVE by passing validation alone, and only STAGING is written. -/
theorem stepKeepsTheActiveBankComplete : Obligations.StepKeepsTheActiveBankComplete :=
  step_keeps (fun _ _ hs => hs) exec_keeps_banksSound

/-- Settles O21: every change of the store leaves the bank that was ACTIVE, and SWITCH_BANK alone the roles. -/
theorem theActiveBankIsNotWritten : Obligations.TheActiveBankIsNotWritten := by
  intro c s t h hc
  cases exec_storeChange h hc with
  | same hstore => exact ⟨State.bank_of_store hstore _, fun _ => State.active_of_store hstore⟩
  | staged b hstore _ =>
    exact ⟨(State.bank_of_store hstore _).trans (s.bank_setBank_other s.active b),
      fun _ => (State.active_of_store hstore).trans (s.setStaging_active b)⟩
  | switched _ hstore =>
    exact ⟨congrArg (fun v => v.bank s.active) hstore, fun hne => absurd rfl hne⟩

end Sys2Proof.Machine
end

section
/-!
Validation of a bank (R81): the two checks on one recipe, and the first recipe that fails.
-/
namespace Sys2Proof.Machine

/-! ### The steps of a recipe (R76) -/

theorem forall_mem_stepIndexes {h : RecipeHeader} {P : Fin 128 → Prop} :
    (∀ i ∈ stepIndexes h, P i) ↔ ∀ k < h.count, P (Fin.ofNat 128 (h.first.val + k)) := by
  simp only [stepIndexes, List.forall_mem_map, List.mem_range]

theorem exists_mem_stepIndexes {h : RecipeHeader} {P : Fin 128 → Prop} :
    (∃ i ∈ stepIndexes h, P i) ↔ ∃ k < h.count, P (Fin.ofNat 128 (h.first.val + k)) := by
  simp only [stepIndexes, List.mem_map, List.mem_range, exists_exists_and_eq_and]

variable {b : Bank}

/-! ### The checks on one recipe (R81) -/

section Recipe

variable {h : RecipeHeader}

/-- The first check finds nothing when every step of the recipe is written. -/
theorem find?_unwritten_eq_none :
    ((stepIndexes h).find? fun i => !b.steps[i].written) = none ↔
      ∀ k < h.count, (b.steps[Fin.ofNat 128 (h.first.val + k)]).written = true := by
  rw [List.find?_eq_none, forall_mem_stepIndexes]
  simp only [Bool.not_eq_true', Bool.not_eq_false]

/-- The first check finds the lowest unwritten step of the recipe. -/
theorem find?_unwritten_eq_some {k : Nat} (hk : k < h.count)
    (hunwritten : (b.steps[Fin.ofNat 128 (h.first.val + k)]).written = false)
    (hbelow : ∀ m < k, (b.steps[Fin.ofNat 128 (h.first.val + m)]).written = true) :
    ((stepIndexes h).find? fun i => !b.steps[i].written) = some (Fin.ofNat 128 (h.first.val + k)) := by
  have hfirst : ((List.range h.count).find? fun m => !(b.steps[Fin.ofNat 128 (h.first.val + m)]).written) = some k :=
    List.find?_range_eq_some.2 ⟨by rw [hunwritten]; rfl, List.mem_range.2 hk, fun m hm => by rw [hbelow m hm]; rfl⟩
  rw [stepIndexes, List.find?_map]
  exact congrArg (Option.map _) hfirst

theorem any_pulse_iff :
    ((stepIndexes h).any fun i => decide (b.steps[i].step.action = .pulse)) = true ↔
      ∃ k < h.count, (b.steps[Fin.ofNat 128 (h.first.val + k)]).step.action = .pulse := by
  simp only [List.any_eq_true, decide_eq_true_eq]
  exact exists_mem_stepIndexes (P := fun i => b.steps[i].step.action = .pulse)

theorem Bank.checkRecipe_undefined (hcount : h.count = 0) : b.checkRecipe h = none := if_pos hcount

theorem Bank.checkRecipe_complete (hcomplete : Claims.RecipeComplete b h) : b.checkRecipe h = none := by
  unfold Bank.checkRecipe
  rw [find?_unwritten_eq_none.2 hcomplete.1, if_pos (any_pulse_iff.2 hcomplete.2), ite_self]

theorem Bank.checkRecipe_unwritten {k : Nat} (hk : k < h.count)
    (hunwritten : (b.steps[Fin.ofNat 128 (h.first.val + k)]).written = false)
    (hbelow : ∀ m < k, (b.steps[Fin.ofNat 128 (h.first.val + m)]).written = true) :
    b.checkRecipe h = some (.unwrittenStep (Fin.ofNat 128 (h.first.val + k))) := by
  unfold Bank.checkRecipe
  rw [if_neg (Nat.ne_zero_of_lt hk), find?_unwritten_eq_some hk hunwritten hbelow]

theorem Bank.checkRecipe_noPulse (hcount : h.count ≠ 0)
    (hwritten : ∀ k < h.count, (b.steps[Fin.ofNat 128 (h.first.val + k)]).written = true)
    (hpulse : ∀ k < h.count, (b.steps[Fin.ofNat 128 (h.first.val + k)]).step.action ≠ .pulse) :
    b.checkRecipe h = some .noPulse := by
  have hnone : ¬ ∃ k < h.count, (b.steps[Fin.ofNat 128 (h.first.val + k)]).step.action = .pulse :=
    fun ⟨k, hk, hp⟩ => hpulse k hk hp
  unfold Bank.checkRecipe
  rw [if_neg hcount, find?_unwritten_eq_none.2 hwritten, if_neg (mt any_pulse_iff.1 hnone)]

end Recipe

/-! ### The recipes in order (R81) -/

/-- A recipe that is undefined or complete passes. -/
theorem Bank.checkRecipe_passes {r : Fin 16}
    (h : b.headers[r].count ≠ 0 → Claims.RecipeComplete b b.headers[r]) : b.checkRecipe b.headers[r] = none := by
  by_cases hcount : b.headers[r].count = 0
  · exact Bank.checkRecipe_undefined hcount
  · exact Bank.checkRecipe_complete (h hcount)

theorem Bank.validate_complete (h : Claims.BankComplete b) : b.validate = none := by
  unfold Bank.validate
  rw [List.findSome?_eq_none_iff]
  intro r _
  rw [Bank.checkRecipe_passes (h r)]; rfl

/-- Validation ends at the first recipe that fails, with what it failed on. -/
theorem Bank.validate_firstFailure {r : Fin 16} {c : BankCheck}
    (hbefore : ∀ j : Fin 16, j < r → b.headers[j].count ≠ 0 → Claims.RecipeComplete b b.headers[j])
    (hfails : b.checkRecipe b.headers[r] = some c) : b.validate = some (r, c) := by
  obtain ⟨before, after, hsplit⟩ := List.append_of_mem (List.mem_finRange r)
  have hsorted := List.pairwise_lt_finRange 16
  rw [hsplit, List.pairwise_append] at hsorted
  obtain ⟨-, -, hlt⟩ := hsorted
  have hpass : before.findSome? (fun j => (b.checkRecipe b.headers[j]).map fun c => (j, c)) = none := by
    rw [List.findSome?_eq_none_iff]
    intro j hj
    rw [Bank.checkRecipe_passes (hbefore j (hlt j hj r List.mem_cons_self))]; rfl
  unfold Bank.validate allRecipes
  rw [hsplit, List.findSome?_append, hpass, Option.none_or, List.findSome?_cons, hfails]
  rfl

end Sys2Proof.Machine
end

section
/-!
The packets of the Recipe Store (R78 to R83): their bodies read back, and what each makes of the part.
-/
namespace Sys2Proof

/-! ### Steps in words (11.3.3) -/

/-- A delay from its low 16 bits and the byte above them (11.3.3). -/
theorem delay_halves (d : BitVec 24) : d.extractLsb' 16 8 ++ d.extractLsb' 0 16 = d := by
  apply BitVec.eq_of_getLsbD_eq
  intro i hi
  simp only [BitVec.getLsbD_append, BitVec.getLsbD_extractLsb']
  by_cases h : i < 16
  · simp [h]
  · simp only [h, decide_false, if_false]
    rw [Nat.add_sub_cancel' (by omega)]
    simp; omega

/-- A well-formed step is read back from its six words. -/
theorem decodeStep_words {st : Step} (h : st.wf = true) : decodeStep st.words = some st := by
  obtain ⟨delay, action, line, width, unit, cond, repeats, spacing⟩ := st
  have hline : line.val % 2 ^ 8 = line.val := Nat.mod_eq_of_lt (by omega)
  have haction : action.code % 2 ^ 8 = action.code := by cases action <;> rfl
  have hunit : unit.code % 2 ^ 8 = unit.code := by cases unit <;> rfl
  have hcond : cond.code % 2 ^ 8 = cond.code := by cases cond <;> rfl
  unfold decodeStep
  simp only [Step.words, wordOf, loByte_word, hiByte_word, BitVec.toNat_ofNat, hline, haction, hunit, hcond,
    decodeFin_val, decodeStepAction_code, decodeUnit_code, decodeCondition_code, delay_halves, Option.bind_eq_bind,
    Option.bind_some, h, if_true]

/-- Well-formed steps are read back one after another from their words. -/
theorem decodeSteps_words {steps : List Step} {n : Nat} (hwf : steps.all Step.wf = true) (hn : steps.length ≤ n) :
    decodeSteps n (steps.map Step.words).flatten = some steps := by
  induction steps generalizing n with
  | nil => cases n <;> rfl
  | cons st steps ih =>
    rw [List.all_cons, Bool.and_eq_true] at hwf
    obtain ⟨hst, hrest⟩ := hwf
    cases n with
    | zero => exact absurd hn (Nat.not_succ_le_zero _)
    | succ n =>
      have htake : (st.words ++ (steps.map Step.words).flatten).take 6 = st.words := List.take_left' st.words_length
      have hdrop : (st.words ++ (steps.map Step.words).flatten).drop 6 = (steps.map Step.words).flatten :=
        List.drop_left' st.words_length
      have hunfold : decodeSteps (n + 1) (st.words ++ (steps.map Step.words).flatten) =
          (decodeStep ((st.words ++ (steps.map Step.words).flatten).take 6)).bind fun first =>
            (decodeSteps n ((st.words ++ (steps.map Step.words).flatten).drop 6)).bind fun rest =>
              some (first :: rest) := rfl
      rw [List.map_cons, List.flatten_cons, hunfold, htake, hdrop, decodeStep_words hst,
        ih hrest (Nat.le_of_succ_le_succ hn)]
      rfl

/-- What the field checks ask of a WRITE_STEPS (R79). -/
theorem Packet.writeSteps_wf {first : Fin 128} {steps : List Step} :
    (Packet.writeSteps first steps).wf = true ↔
      (1 ≤ steps.length ∧ steps.length ≤ 10) ∧ first.val + steps.length ≤ 128 ∧ steps.all Step.wf = true := by
  simp only [Packet.wf, Bool.and_eq_true, decide_eq_true_eq, and_assoc]

end Sys2Proof

namespace Sys2Proof.Machine

variable {s : State}

/-! ### The packets read back -/

theorem decodeBody_writeRecipe {r : Fin 16} {h : RecipeHeader} (hwf : h.wf = true) :
    decodeBody .writeRecipe (Packet.writeRecipe r h).body = some (.writeRecipe r h) := by
  obtain ⟨axis, first, count, dflt⟩ := h
  have hcount : count % 2 ^ 8 = count := by simp [RecipeHeader.wf] at hwf; omega
  have hr : r.val % 2 ^ 8 = r.val := Nat.mod_eq_of_lt (by omega)
  have hfirst : first.val % 2 ^ 8 = first.val := Nat.mod_eq_of_lt (by omega)
  have haxis : axis.code % 2 ^ 8 = axis.code := by cases axis <;> rfl
  have hdflt : (BitVec.ofNat 16 dflt.code).toNat = dflt.code := by cases dflt <;> rfl
  have hf : decodeFields .writeRecipe (Packet.writeRecipe r ⟨axis, first, count, dflt⟩).body =
      some (.writeRecipe r ⟨axis, first, count, dflt⟩) := by
    unfold decodeFields
    simp only [Packet.body, wordOf, loByte_word, hiByte_word, BitVec.toNat_ofNat, hcount, hr, hfirst, haxis, hdflt,
      decodeFin_val, decodeAxis_code, decodeVerdict_code, Option.bind_eq_bind, Option.bind_some]
  have hp : (Packet.writeRecipe r ⟨axis, first, count, dflt⟩).wf = true := hwf
  simp only [decodeBody, hf, hp, if_true]

theorem decodeBody_writeSteps {first : Fin 128} {steps : List Step}
    (hwf : (Packet.writeSteps first steps).wf = true) :
    decodeBody .writeSteps (Packet.writeSteps first steps).body = some (.writeSteps first steps) := by
  obtain ⟨⟨-, hlength⟩, -, hsteps⟩ := Packet.writeSteps_wf.1 hwf
  have hfirst : (BitVec.ofNat 16 first.val).toNat = first.val := Nat.mod_eq_of_lt (by omega)
  have hf : decodeFields .writeSteps (Packet.writeSteps first steps).body = some (.writeSteps first steps) := by
    unfold decodeFields
    simp only [Packet.body, hfirst, decodeFin_val, decodeSteps_words hsteps hlength, Option.bind_eq_bind,
      Option.bind_some]
  simp only [decodeBody, hf, hwf, if_true]

theorem exec_writeRecipe_ready {r : Fin 16} {h : RecipeHeader} (hready : s.PacketReady (.writeRecipe r h)) :
    exec .writeRecipe s = .next ((s.writeRecipe r h).passPacket 3) :=
  congrArg Host.Outcome.next (State.onPacket_ready hready (decodeBody_writeRecipe hready.1) _)

theorem exec_writeSteps_ready {first : Fin 128} {steps : List Step} (hready : s.PacketReady (.writeSteps first steps)) :
    exec .writeSteps s =
      .next ((s.writeSteps first steps).passPacket (Packet.writeSteps first steps).body.length) :=
  congrArg Host.Outcome.next (State.onPacket_ready hready (decodeBody_writeSteps hready.1) _)

theorem exec_copyBank_ready (hready : s.PacketReady .copyBank) :
    exec .copyBank s = .next (s.copyBank.passPacket 0) :=
  congrArg Host.Outcome.next (State.onPacket_ready hready rfl _)

theorem exec_switchBank_ready (hready : s.PacketReady .switchBank) :
    exec .switchBank s = .next (s.switchBank.passPacket 0) :=
  congrArg Host.Outcome.next (State.onPacket_ready hready rfl _)

/-! ### Writing the STAGING bank (R78 to R80) -/

/-- The pool after a run of steps is written: each step of the run at its own index, every other step as it was. -/
theorem getElem_writeStepsAt {steps : List Step} {pool : Vector StoredStep 128} {first : Nat}
    (hfits : first + steps.length ≤ 128) (i : Fin 128) :
    (writeStepsAt pool first steps)[i] =
      if h : first ≤ i.val ∧ i.val - first < steps.length
      then { step := steps[i.val - first]'(h.2), written := true } else pool[i] := by
  induction steps generalizing pool first with
  | nil => rw [dif_neg (fun h => Nat.not_lt_zero _ h.2)]; rfl
  | cons st steps ih =>
    rw [List.length_cons] at hfits
    have hmod : first % 128 = first := Nat.mod_eq_of_lt (by omega)
    have hset : (pool.set (first % 128) { step := st, written := true } (Nat.mod_lt _ (by decide)))[i] =
        if first = i.val then { step := st, written := true } else pool[i] := by
      simp only [Fin.getElem_fin, Vector.getElem_set, hmod]
    rw [writeStepsAt, ih (by omega), hset]
    rcases Nat.lt_trichotomy i.val first with hlt | heq | hgt
    · rw [dif_neg (by omega), if_neg (by omega), dif_neg (by omega)]
    · rw [dif_neg (by omega), if_pos heq.symm, dif_pos ⟨by omega, by rw [List.length_cons]; omega⟩]
      simp only [heq, Nat.sub_self, List.getElem_cons_zero]
    · have hsub : i.val - first = i.val - (first + 1) + 1 := by omega
      have hnext : first + 1 ≤ i.val := hgt
      have hne : first ≠ i.val := Nat.ne_of_lt hgt
      simp only [hsub, List.length_cons, List.getElem_cons_succ, Nat.add_lt_add_iff_right, hnext, Nat.le_of_lt hgt,
        hne, true_and, if_false]

/-- A write of STAGING and the advance of read leave every other block as it is (R75). -/
theorem State.setStaging_restored (s : State) (b : Bank) (len : Nat) :
    { (s.setStaging b).passPacket len with
      bank0 := s.bank0, bank1 := s.bank1, ring := s.ring, parser := s.parser } = s := by
  unfold State.setStaging
  cases s.active <;> rfl

/-- Settles O52: each packet replaces STAGING by the bank that its rule states. -/
theorem recipePacketsWriteStaging : Obligations.RecipePacketsWriteStaging := by
  refine ⟨fun s r h hready => exec_writeRecipe_ready hready, fun s first steps hready => ?writeSteps,
    fun s hready => ⟨exec_copyBank_ready hready, fun hcomplete => ?copied⟩⟩
  case writeSteps =>
    obtain ⟨-, hfits, -⟩ := Packet.writeSteps_wf.1 hready.1
    have hstore := (State.passPacket_fixed (s.writeSteps first steps)
      (Packet.writeSteps first steps).body.length).store_eq
    have hstaging := (State.stagingBank_of_store hstore).trans (s.setStaging_stagingBank _)
    refine ⟨_, exec_writeSteps_ready hready, (State.active_of_store hstore).trans (s.setStaging_active _),
      (State.activeBank_of_store hstore).trans (s.setStaging_activeBank _), ?_, fun i => ?_,
      s.setStaging_restored _ _⟩ <;> rw [hstaging]
    exact getElem_writeStepsAt hfits i
  case copied => exact (congrArg Bank.validate (s.setStaging_stagingBank s.activeBank)).trans hcomplete

/-! ### The switch (R81 to R83) -/

/-- Settles O53: validation finds nothing in a complete bank, and else the first recipe that fails. -/
theorem switchBankValidates : Obligations.SwitchBankValidates := by
  intro s hready
  rw [exec_switchBank_ready hready]
  constructor
  · intro hcomplete
    rw [State.switchBank, Bank.validate_complete hcomplete]; rfl
  · intro r hd hbefore hcount
    refine ⟨fun k hk hunwritten hbelow => ?unwritten, fun hsteps => ?noPulse⟩
    case unwritten =>
      rw [State.switchBank, Bank.validate_firstFailure hbefore (Bank.checkRecipe_unwritten hk hunwritten hbelow)]
      rfl
    case noPulse =>
      rw [State.switchBank, Bank.validate_firstFailure hbefore (Bank.checkRecipe_noPulse hcount
        (fun k hk => (hsteps k hk).1) fun k hk => (hsteps k hk).2)]
      rfl

end Sys2Proof.Machine
end

section
/-!
The edges of a detector and the end of its lockout (R91, R92, R94, R97).
-/
namespace Sys2Proof.Machine

/-! ### One detector replaced -/

@[simp] theorem State.setDet_setDet (s : State) (n : Fin 8) (d e : Detector) :
    (s.setDet n d).setDet n e = s.setDet n e := by
  simp [State.setDet]

/-- On a part whose detectors are those of `s`, the replacement is written into the detectors of `s`. -/
theorem State.setDet_of_dets {s u : State} (h : u.dets = s.dets) (n : Fin 8) (d : Detector) :
    u.setDet n d = { u with dets := s.dets.set n d } := by
  rw [State.setDet, h]

/-! ### DETECTOR_EDGE (R91, R92, R94) -/

variable {s : State} {n : Fin 8} {level : Bool}

/-- A level that is no change is no edge (R91). -/
theorem State.detectorEdge_unchanged (h : level = (s.det n).lastLevel) : s.detectorEdge n level = s := if_pos h

/-- In DISABLED and in LOCKOUT, and away from the selected edge in WAITING, an edge is seen and no more (R97). -/
theorem State.detectorEdge_ignored (hedge : level ≠ (s.det n).lastLevel)
    (hstate : (s.det n).state = .disabled ∨ (s.det n).state = .lockout ∨
      (s.det n).state = .waiting ∧ level ≠ activeLevel (s.det n).cfg.edge) :
    s.detectorEdge n level = s.setDet n { s.det n with lastLevel := level } := by
  unfold State.detectorEdge
  rcases hstate with hstate | hstate | ⟨hstate, haway⟩
  · simp only [if_neg hedge, hstate]
  · simp only [if_neg hedge, hstate]
  · simp only [if_neg hedge, hstate, if_neg haway]

/-- A selected edge in WAITING captures the positions and, with Q above 0, starts the count (R92). -/
theorem State.detectorEdge_selected (hedge : level ≠ (s.det n).lastLevel) (hstate : (s.det n).state = .waiting)
    (hselected : level = activeLevel (s.det n).cfg.edge) :
    s.detectorEdge n level =
      let started := s.setDet n
        { s.det n with lastLevel := level, state := .qualifying s.capture, count := 0 }
      if (s.det n).cfg.qual = 0 then started.detect n s.capture else started := by
  unfold State.detectorEdge State.startQualifying
  simp only [if_neg hedge, hstate, if_pos hselected, State.det_setDet, if_true, State.setDet_setDet]
  rfl

/-- An edge away from the active level in QUALIFYING is a glitch (R94). -/
theorem State.detectorEdge_glitch {c : Capture} (hedge : level ≠ (s.det n).lastLevel)
    (hstate : (s.det n).state = .qualifying c) (haway : level ≠ activeLevel (s.det n).cfg.edge) :
    s.detectorEdge n level = s.setDet n { s.det n with lastLevel := level, state := .waiting } := by
  unfold State.detectorEdge
  simp only [if_neg hedge, hstate, if_neg haway, State.det_setDet, if_true, State.setDet_setDet]

/-- A detector whose count has reached Q raises its detection event (R94, R95). -/
theorem State.qualificationComplete_due {c : Capture} (hstate : (s.det n).state = .qualifying c)
    (hcount : (s.det n).count = (s.det n).cfg.qual.toNat) : s.qualificationComplete n = s.detect n c := by
  simp only [State.qualificationComplete, hstate, if_pos hcount]

/-- With Q 0 the detection event that the edge raises is the one that QUALIFICATION_COMPLETE raises after it (R92). -/
theorem State.qualificationComplete_started (c : Capture) {d : Detector} (hqual : d.cfg.qual = 0) :
    (s.setDet n { d with state := .qualifying c, count := 0 }).qualificationComplete n =
      (s.setDet n { d with state := .qualifying c, count := 0 }).detect n c := by
  have hdet : (s.setDet n { d with state := .qualifying c, count := 0 }).det n =
      { d with state := .qualifying c, count := 0 } := by
    rw [State.det_setDet, if_pos rfl]
  refine State.qualificationComplete_due ?_ ?_
  · rw [hdet]
  · rw [hdet]; simp [hqual]

/-! ### LOCKOUT_END (R97) -/

theorem State.lockoutEnd_due (hstate : (s.det n).state = .lockout)
    (hend : reached (s.pos (s.det n).cfg.lockAxis) (s.det n).lockoutEnd = true) :
    s.lockoutEnd n = s.setDet n { s.det n with state := .waiting } := if_pos ⟨hstate, hend⟩

theorem State.lockoutEnd_undue
    (h : (s.det n).state ≠ .lockout ∨ reached (s.pos (s.det n).cfg.lockAxis) (s.det n).lockoutEnd = false) :
    s.lockoutEnd n = s := by
  refine if_neg fun ⟨hstate, hend⟩ => h.elim (· hstate) fun hahead => ?_
  rw [hend] at hahead
  cases hahead

/-- Settles O54: the five outcomes of an edge, and the two of LOCKOUT_END. -/
theorem detectorEdgesAndLockoutEnds : Obligations.DetectorEdgesAndLockoutEnds := by
  refine ⟨?edges, fun s n => ⟨fun hstate hend => ?ends, fun hundue => ?stays⟩⟩
  case edges =>
    intro s n level d selected seen capture
    refine ⟨fun hsame => ?unchanged, fun hedge hstate => ?ignored, fun hedge hwaiting hselected hqual => ?starts,
      fun hedge hwaiting hselected hqual => ?atOnce, fun c hedge hqualifying haway => ?glitch⟩
    case unchanged => exact congrArg Host.Outcome.next (State.detectorEdge_unchanged hsame)
    case ignored => exact congrArg Host.Outcome.next (State.detectorEdge_ignored hedge hstate)
    case starts =>
      exact congrArg Host.Outcome.next ((State.detectorEdge_selected hedge hwaiting hselected).trans (if_neg hqual))
    case atOnce =>
      have hdetects := (State.detectorEdge_selected hedge hwaiting hselected).trans (if_pos hqual)
      exact congrArg Host.Outcome.next
        (hdetects.trans (State.qualificationComplete_started (d := seen) s.capture hqual).symm)
    case glitch => exact congrArg Host.Outcome.next (State.detectorEdge_glitch hedge hqualifying haway)
  case ends => exact congrArg Host.Outcome.next (State.lockoutEnd_due hstate hend)
  case stays => exact congrArg Host.Outcome.next (State.lockoutEnd_undue hundue)

end Sys2Proof.Machine
end

section
/-!
The detection event (R51 to R54, R95, R96): the Item Table's admission or refusal, and the detector's own passage.
-/
namespace Sys2Proof.Machine

variable {s : State} {n : Fin 8} {r : Fin 16} {c : Capture} {i : Fin 64}

/-! ### The Item Table's part (R51, R53, R54) -/

/-- The request that a detection event makes (R51). -/
def State.detectionRequest (s : State) (n : Fin 8) (r : Fin 16) (c : Capture) : AdmissionRequest :=
  { origin := .detector n, recipe := r, tag := none, capture := c.on (s.recipe r).axis }

theorem State.detectionEvent_refused {reason : Reason} (h : Claims.refusal s r = some reason) :
    s.detectionEvent n r c =
      s.offer (detectRefusedReport n reason r (s.recipe r).axis (c.on (s.recipe r).axis)) := by
  rw [State.detectionEvent, State.admissionCheck_eq, h]

theorem State.detectionEvent_admitted (hnone : Claims.refusal s r = none) (hi : s.lowestFreeSlot = some i) :
    s.detectionEvent n r c = (s.admittedTo (s.detectionRequest n r c) i).releasePass (s.recipe r).axis := by
  rw [← State.admissionCheck_eq] at hnone
  rw [State.detectionEvent, hnone]
  exact State.admitItem_eq (q := s.detectionRequest n r c) hnone hi

theorem State.detectionEvent_outside (s : State) (n : Fin 8) (r : Fin 16) (c : Capture) :
    s.SameOutside (s.detectionEvent n r c) := by
  unfold State.detectionEvent; dsimp only; split
  · exact s.offer_outside _
  · exact s.admitItem_outside _

/-- The pass that ends an admission is the row's own: a running engine takes no notice of it (R24, R200). -/
theorem State.admittedTo_passEvent {q : AdmissionRequest} (hrun : s.engine = .run) (i : Fin 64) (ax : Axis) :
    (s.admittedTo q i).passEvent ax = (s.admittedTo q i).releasePass ax := by
  refine State.engineNotice_stays (.inl ?_)
  rw [State.releasePass_engine, State.admittedTo_engine, hrun]
  exact EngineState.noConfusion

/-- What an admission with its own pass leaves alone. -/
theorem State.admittedTo_releasePass_restored (s : State) (q : AdmissionRequest) (i : Fin 64) (ax : Axis) :
    { (s.admittedTo q i).releasePass ax with
      tList := s.tList, e1List := s.e1List, e2List := s.e2List, free := s.free, slots := s.slots
      lines := s.lines, queue := s.queue } = s :=
  (congrArg (fun u : State =>
      { u with
        tList := s.tList, e1List := s.e1List, e2List := s.e2List, free := s.free, slots := s.slots
        lines := s.lines, queue := s.queue })
    (State.releasePass_restored (s.admittedTo q i) ax)).trans
    (congrArg (fun u : State => { u with lines := s.lines, queue := s.queue })
      (State.admittedTo_restored (q := q) (i := i)))

/-! ### The detector's passage (R95, R96) -/

/-- LOCKOUT when L is at least 1 and its end is still ahead, else WAITING (R96). -/
theorem State.afterDetection_eq (s : State) (d : Detector) (c : Capture) :
    s.afterDetection d c =
      { d with
        lockoutEnd := lockoutEndOf d.cfg c
        state := if 1 ≤ d.cfg.lockDist.toNat ∧ reached (s.pos d.cfg.lockAxis) (lockoutEndOf d.cfg c) = false
          then .lockout else .waiting } := by
  unfold State.afterDetection
  by_cases hzero : d.cfg.lockDist = 0
  · have hshort : ¬ 1 ≤ d.cfg.lockDist.toNat := by simp [hzero]
    simp only [if_pos hzero, hshort, false_and, if_false]
  · have hlong : 1 ≤ d.cfg.lockDist.toNat := Nat.one_le_iff_ne_zero.2 fun h => hzero (BitVec.eq_of_toNat_eq h)
    cases hend : reached (s.pos d.cfg.lockAxis) (lockoutEndOf d.cfg c)
    · simp only [if_neg hzero, hend, hlong, Bool.false_eq_true, and_self, if_true, if_false]
    · simp only [if_neg hzero, hend, Bool.true_eq_false, and_false, if_true, if_false]

theorem State.afterDetection_congr {s t : State} (h : ∀ ax, t.pos ax = s.pos ax) (d : Detector) (c : Capture) :
    t.afterDetection d c = s.afterDetection d c := by
  simp only [State.afterDetection, h]

/-- The detection event is the Item Table's part, and the detector's passage beside it (R95). -/
theorem State.detect_eq (s : State) (n : Fin 8) (c : Capture) :
    s.detect n c =
      (s.detectionEvent n (s.det n).cfg.recipe c).setDet n (s.afterDetection (s.det n) c) := by
  have hpos := (s.detectionEvent_outside n (s.det n).cfg.recipe c).toSameFixed.pos_eq
  have hdet := State.det_congr (s.detectionEvent_dets n (s.det n).cfg.recipe c) n
  simp only [State.detect, hdet, State.afterDetection_congr hpos]

/-- Settles O55: each clause is one property of the Item Table's part, which leaves the detectors alone. -/
theorem qualificationRaisesTheDetection : Obligations.QualificationRaisesTheDetection := by
  intro s n c hstate hcount d r lockEnd after
  have hexec : exec (.qualificationComplete n) s = .next ((s.detectionEvent n r c).setDet n after) :=
    congrArg Host.Outcome.next ((State.qualificationComplete_due hstate hcount).trans
      ((s.detect_eq n c).trans (congrArg _ (s.afterDetection_eq d c))))
  rw [hexec]
  refine ⟨⟨_, rfl, ?passage⟩, fun reason hreason => ?refused, fun i hnone hlowest hahead => ?waits,
    fun i hnone hlowest => ?general, fun hnone hordered => ?leavesNothingDue⟩
  case passage => rw [State.setDet_dets, State.detectionEvent_dets]
  case refused =>
    rw [State.detectionEvent_refused hreason]
    rfl
  case waits =>
    have hquiet : (s.admittedTo (s.detectionRequest n r c) i).ListQuiet (s.recipe r).axis :=
      State.admittedTo_listQuiet (q := s.detectionRequest n r c) hahead
    rw [State.setDet_of_dets (s.detectionEvent_dets n r c),
      State.detectionEvent_admitted hnone (State.lowestFreeSlot_of_lowestFree hlowest),
      State.releasePass_quiet hquiet]
    rfl
  case general =>
    have hrun := (State.admissionCheck_eq_none ((s.admissionCheck_eq r).trans hnone)).1
    refine ⟨(s.admittedTo (s.detectionRequest n r c) i).passEvent (s.recipe r).axis, rfl, ?_⟩
    rw [State.setDet_of_dets (s.detectionEvent_dets n r c), State.admittedTo_passEvent hrun,
      State.detectionEvent_admitted hnone (State.lowestFreeSlot_of_lowestFree hlowest)]
  case leavesNothingDue =>
    obtain ⟨-, -, hslot, -⟩ := State.admissionCheck_eq_none ((s.admissionCheck_eq r).trans hnone)
    obtain ⟨i, hi⟩ := Option.ne_none_iff_exists'.1 hslot
    have hadmitted : (s.admittedTo (s.detectionRequest n r c) i).InLeadOrder (s.recipe r).axis :=
      State.admittedTo_inLeadOrder (q := s.detectionRequest n r c) hordered
    refine ⟨_, rfl, ?passage, ?_, fun other hother => ?_, ?_⟩
    case passage => rw [State.setDet_dets, State.detectionEvent_dets]
    all_goals rw [State.detectionEvent_admitted hnone hi]
    · have hall := hadmitted.releasePass_unreached
      rw [State.admittedTo_pos] at hall
      rwa [State.setDet_list]
    · rw [State.setDet_list, State.releasePass_list_of_ne _ hother]
      exact State.admittedTo_list_of_ne (q := s.detectionRequest n r c) hother
    · exact congrArg (fun u : State => { u with dets := s.dets })
        (s.admittedTo_releasePass_restored (s.detectionRequest n r c) i (s.recipe r).axis)

end Sys2Proof.Machine
end

section
/-!
The packets of the detectors: CONFIG_DETECTOR and DETECTOR_CONTROL (R99 to R101).
-/
namespace Sys2Proof.Machine

variable {s : State}

/-! ### The packets read back -/

theorem decodeBody_configDetector (n : Fin 8) (cfg : DetectorConfig) :
    decodeBody .configDetector (Packet.configDetector n cfg).body = some (.configDetector n cfg) := by
  obtain ⟨edge, qual, recipe, lockAxis, lockDist⟩ := cfg
  have hn : n.val % 2 ^ 8 = n.val := Nat.mod_eq_of_lt (by omega)
  have hr : recipe.val % 2 ^ 8 = recipe.val := Nat.mod_eq_of_lt (by omega)
  have he : edge.code % 2 ^ 8 = edge.code := by cases edge <;> rfl
  have ha : (BitVec.ofNat 16 lockAxis.code).toNat = lockAxis.code := by cases lockAxis <;> rfl
  have hf : decodeFields .configDetector (Packet.configDetector n ⟨edge, qual, recipe, lockAxis, lockDist⟩).body =
      some (.configDetector n ⟨edge, qual, recipe, lockAxis, lockDist⟩) := by
    unfold decodeFields
    simp only [Packet.body, wordOf, loByte_word, hiByte_word, BitVec.toNat_ofNat, hn, hr, he, ha, decodeFin_val,
      decodeEdge_code, decodeAxis_code, Option.bind_eq_bind, Option.bind_some]
  simp only [decodeBody, hf, Packet.wf, if_true]

theorem decodeBody_detectorControl (mask : ByteField) (a : DetectorAction) :
    decodeBody .detectorControl (Packet.detectorControl mask a).body = some (.detectorControl mask a) := by
  have ha : (BitVec.ofNat 8 a.code).toNat = a.code := by cases a <;> rfl
  have hf : decodeFields .detectorControl (Packet.detectorControl mask a).body =
      some (.detectorControl mask a) := by
    unfold decodeFields
    simp only [Packet.body, loByte_word, hiByte_word, ha, decodeDetectorAction_code, Option.bind_eq_bind,
      Option.bind_some]
  simp only [decodeBody, hf, Packet.wf, if_true]

theorem exec_configDetector_ready {n : Fin 8} {cfg : DetectorConfig} (h : s.PacketReady (.configDetector n cfg)) :
    exec .configDetector s = .next ((s.configDetector n cfg).passPacket 4) :=
  congrArg Host.Outcome.next (State.onPacket_ready h (decodeBody_configDetector n cfg) _)

theorem exec_enable_ready {mask : ByteField} (h : s.PacketReady (.detectorControl mask .enable)) :
    exec .enable s = .next ((s.forDetectors mask State.enableDetector).passPacket 1) :=
  congrArg Host.Outcome.next (State.onPacket_ready h (decodeBody_detectorControl mask .enable) _)

theorem exec_disable_ready {mask : ByteField} (h : s.PacketReady (.detectorControl mask .disable)) :
    exec .disable s = .next ((s.forDetectors mask State.disableDetector).passPacket 1) :=
  congrArg Host.Outcome.next (State.onPacket_ready h (decodeBody_detectorControl mask .disable) _)

/-! ### An action on the masked detectors, each for itself (R100) -/

@[simp] theorem State.setDet_det (s : State) (n : Fin 8) : s.setDet n (s.det n) = s := by
  simp [State.setDet, State.det]

/-- `act` replaces detector `n` by what `f` makes of it, and does nothing else. -/
def ActsOnDetector (act : State → Fin 8 → State) (f : Detector → Detector) : Prop :=
  ∀ (t : State) (n : Fin 8), act t n = t.setDet n (f (t.det n))

/-- ENABLE on one detector (R100). -/
def Detector.enabled (d : Detector) : Detector := if d.state = .disabled then { d with state := .waiting } else d

/-- DISABLE on one detector (R101). -/
def Detector.disabled (d : Detector) : Detector := { d with state := .disabled }

theorem enableDetector_acts : ActsOnDetector State.enableDetector Detector.enabled := fun t n => by
  unfold State.enableDetector Detector.enabled
  by_cases h : (t.det n).state = .disabled
  · simp only [if_pos h]
  · simp only [if_neg h, State.setDet_det]

theorem disableDetector_acts : ActsOnDetector State.disableDetector Detector.disabled := fun _ _ => rfl

variable {act : State → Fin 8 → State} {f : Detector → Detector}

/-- Over a list that names no detector twice, each named and masked detector is acted on once. -/
theorem ActsOnDetector.foldl_det (h : ActsOnDetector act f) (mask : ByteField) {l : List (Fin 8)} (hl : l.Nodup)
    (s : State) (m : Fin 8) :
    (l.foldl (fun s n => if mask.getLsbD n.val then act s n else s) s).det m =
      if m ∈ l ∧ mask.getLsbD m.val = true then f (s.det m) else s.det m := by
  induction l generalizing s with
  | nil => simp
  | cons n l ih =>
    obtain ⟨hn, hl⟩ := List.nodup_cons.1 hl
    rw [List.foldl_cons, ih hl]
    by_cases hm : m = n
    · subst hm
      by_cases hmask : mask.getLsbD m.val = true
      · simp only [hn, hmask, if_true, List.mem_cons_self, and_self, false_and, if_false, h s m, State.det_setDet]
      · simp only [hmask, and_false, if_false, Bool.false_eq_true]
    · have hother : (if mask.getLsbD n.val then act s n else s).det m = s.det m := by
        split
        · rw [h, State.det_setDet, if_neg (Ne.symm hm)]
        · rfl
      simp only [hother, List.mem_cons, hm, false_or]

theorem ActsOnDetector.forDetectors_det (h : ActsOnDetector act f) (s : State) (mask : ByteField) (m : Fin 8) :
    (s.forDetectors mask act).det m = if mask.getLsbD m.val = true then f (s.det m) else s.det m := by
  rw [State.forDetectors, allDetectors, h.foldl_det mask (List.nodup_finRange 8)]
  simp only [List.mem_finRange, true_and]

/-- The action touches the detectors alone. -/
theorem ActsOnDetector.forDetectors_restored (h : ActsOnDetector act f) (s : State) (mask : ByteField) :
    { s.forDetectors mask act with dets := s.dets } = s := by
  refine List.foldlRecOn (motive := fun t : State => { t with dets := s.dets } = s) _ _ rfl fun t ht n _ => ?_
  split
  · rw [h]; exact ht
  · exact ht

/-- The packet with its advance of read. -/
theorem ActsOnDetector.packet_restored (h : ActsOnDetector act f) (s : State) (mask : ByteField) (len : Nat) :
    { (s.forDetectors mask act).passPacket len with dets := s.dets, ring := s.ring, parser := s.parser } = s :=
  congrArg (fun u : State => { u with ring := s.ring, parser := s.parser }) (h.forDetectors_restored s mask)

/-- Settles O56: CONFIG_DETECTOR by the detector's state, and the two actions on each masked detector. -/
theorem detectorPackets : Obligations.DetectorPackets := by
  refine ⟨fun s n cfg hready => ?config, fun s mask hready => ?enable, fun s mask hready => ?disable⟩
  case config =>
    rw [exec_configDetector_ready hready]
    unfold State.configDetector
    refine ⟨fun hdisabled => ?_, fun hbusy => ?_⟩
    · simp only [if_pos hdisabled]
    · simp only [if_neg hbusy]
      rfl
  case enable =>
    refine ⟨_, exec_enable_ready hready, fun n => ?_, enableDetector_acts.packet_restored s mask 1⟩
    rw [State.passPacket_det, enableDetector_acts.forDetectors_det, Detector.enabled, ite_and]
  case disable =>
    refine ⟨_, exec_disable_ready hready, fun n => ?_, disableDetector_acts.packet_restored s mask 1⟩
    rw [State.passPacket_det, disableDetector_acts.forDetectors_det, Detector.disabled]

end Sys2Proof.Machine
end

section
/-!
The answer of a line to a firing request, by the line's state and policy (R106, R113 to R117, R122).
-/
namespace Sys2Proof.Machine

variable {s : State} {n : Fin 16} {q : FiringRequest}

/-! ### Measures and pulses (R106, R114) -/

theorem FiringRequest.measure_of_time (h : q.unit = .time) : q.measure = .time := by
  unfold FiringRequest.measure
  rw [h]

theorem FiringRequest.measure_of_distance {enc : Enc} (hu : q.unit = .distance) (ha : q.axis = enc.axis) :
    q.measure = .distance enc := by
  unfold FiringRequest.measure
  cases enc <;> rw [hu, ha] <;> rfl

theorem FiringRequest.measure_of_distance_t (hu : q.unit = .distance) (ha : q.axis = .t) : q.measure = .time := by
  unfold FiringRequest.measure
  rw [hu, ha]

theorem State.measurePos_distance (s : State) (enc : Enc) : s.measurePos (.distance enc) = (s.encAxis enc).pos :=
  (Enc.pos_encAxis s enc).symm

/-- The pulse that a request starts, its guard read from max-on (R114, R122). -/
theorem State.pulseFor_eq (s : State) (l : Line) (q : FiringRequest) (deferred : Bool) :
    s.pulseFor l q deferred =
      { start := s.t
        measure := q.measure
        endPos := s.measurePos q.measure + q.width.setWidth 32
        guard := if 1 ≤ l.cfg.maxOn.toNat then some (s.t + l.cfg.maxOn.setWidth 32) else none
        origin := q.origin, late := q.late, deferred := deferred } := by
  unfold State.pulseFor FiringRequest.pulse
  by_cases h : l.cfg.maxOn = 0
  · simp [h]
  · have hpos : 1 ≤ l.cfg.maxOn.toNat := by bv_omega
    simp only [h, hpos, if_true, if_false]

/-- An extension keeps the end that lies farther ahead: the request's lies its width ahead (R115). -/
theorem Pulse.extend_eq (u : Pulse) (q : FiringRequest) (p : Pos) :
    u.extend q p =
      { u with
        endPos := if (u.endPos - p).toNat < q.width.toNat then p + q.width.setWidth 32 else u.endPos
        origin := q.origin, late := q.late, deferred := false } := by
  have hw : forwardDistance p (p + q.width.setWidth 32) = q.width.toNat := by
    unfold forwardDistance
    bv_omega
  unfold Pulse.extend
  dsimp only
  rw [hw]
  rfl

/-- A line is busy in ACTIVE and in RECOVERY (R182). -/
theorem Line.busy_iff (l : Line) :
    l.busy = true ↔ (∃ u, l.state = .active u) ∨ ∃ e, l.state = .recovery e := by
  unfold Line.busy
  cases l.state <;> simp

/-! ### The table of R113 -/

theorem State.answer_disabled (h : (s.line n).state = .disabled) :
    s.answer n q = (s.line n, .dropped .disabled) := by
  simp only [State.answer, h]

theorem State.answer_faulted (h : (s.line n).state = .faulted) : s.answer n q = (s.line n, .dropped .faulted) := by
  simp only [State.answer, h]

theorem State.answer_idle (h : (s.line n).state = .idle) :
    s.answer n q =
      ({ s.line n with
          state := .active (s.pulseFor (s.line n) q false), sampleTime := Claims.sampleAfter (s.line n) s.t },
        .accepted) := by
  simp only [State.answer, h]
  rw [Line.enterSampled_eq _ _ _ (by simp)]

theorem State.answer_extend {u : Pulse} (h : (s.line n).state = .active u) (hp : (s.line n).cfg.policy = .extend)
    (hm : u.measure = q.measure) :
    s.answer n q =
      ({ s.line n with state := .active (u.extend q (s.measurePos q.measure)) }, .accepted) := by
  simp only [State.answer, h, hp, hm, if_true]

theorem State.answer_mismatch {u : Pulse} (h : (s.line n).state = .active u)
    (hp : (s.line n).cfg.policy = .extend) (hm : u.measure ≠ q.measure) :
    s.answer n q = (s.line n, .dropped .mismatch) := by
  simp only [State.answer, h, hp, hm, if_false]

theorem State.answer_reject (h : (s.line n).busy = true) (hp : (s.line n).cfg.policy = .reject) :
    s.answer n q = (s.line n, .dropped .collide) := by
  rcases (s.line n).busy_iff.1 h with ⟨u, hst⟩ | ⟨e, hst⟩ <;> simp only [State.answer, hst, hp]

theorem State.answer_recovery_extend {e : Pos} (h : (s.line n).state = .recovery e)
    (hp : (s.line n).cfg.policy = .extend) : s.answer n q = (s.line n, .dropped .collide) := by
  simp only [State.answer, h, hp]

theorem State.answer_defer (h : (s.line n).busy = true) (hp : (s.line n).cfg.policy = .defer)
    (hs : (s.line n).slot = none) : s.answer n q = ({ s.line n with slot := some q }, .accepted) := by
  rcases (s.line n).busy_iff.1 h with ⟨u, hst⟩ | ⟨e, hst⟩ <;> simp only [State.answer, hst, hp, hs]

theorem State.answer_occupied (h : (s.line n).busy = true) (hp : (s.line n).cfg.policy = .defer)
    (hs : (s.line n).slot ≠ none) : s.answer n q = (s.line n, .dropped .collide) := by
  obtain ⟨r, hs⟩ := Option.ne_none_iff_exists'.1 hs
  rcases (s.line n).busy_iff.1 h with ⟨u, hst⟩ | ⟨e, hst⟩ <;> simp only [State.answer, hst, hp, hs]

/-- A request that is not accepted leaves the line as it is (R113). -/
theorem State.answer_same_or_accepted (s : State) (n : Fin 16) (q : FiringRequest) :
    (s.answer n q).1 = s.line n ∨ (s.answer n q).2 = .accepted := by
  cases h : (s.answer n q).2 with
  | accepted => exact .inr rfl
  | dropped r => exact .inl (State.answer_dropped h)

/-- Settles O57: the table of R113, entry by entry. -/
theorem lineAnswers : Obligations.LineAnswers := by
  intro s n q l p
  refine ⟨s.answer_same_or_accepted n q, State.answer_disabled, State.answer_faulted, fun h => ?idle,
    fun u h hp hm => ?extend, fun u h hp hm => State.answer_mismatch h hp hm, State.answer_reject,
    fun e h hp => State.answer_recovery_extend h hp, State.answer_defer, State.answer_occupied,
    FiringRequest.measure_of_time, fun enc => FiringRequest.measure_of_distance,
    FiringRequest.measure_of_distance_t, rfl, s.measurePos_distance, s.pulseFor_eq l q, l.busy_iff⟩
  case idle => rw [State.answer_idle h, State.pulseFor_eq]
  case extend => rw [State.answer_extend h hp hm, Pulse.extend_eq]

end Sys2Proof.Machine
end

section
/-!
The ends of pulses and of recoveries: PULSE_END, MAX_ON_EXPIRY and RECOVERY_END (R118, R120 to R122).
-/
namespace Sys2Proof.Machine

variable {s : State} {n : Fin 16}

/-! ### PULSE_END (R118, R121) -/

theorem State.pulseEnd_due {u : Pulse} (h : (s.line n).state = .active u) (hd : u.endPos = s.measurePos u.measure) :
    s.pulseEnd n = s.endPulse n u .normal := by
  simp only [State.pulseEnd, h, State.endDue, hd, decide_true, if_true]

theorem State.pulseEnd_not_due {u : Pulse} (h : (s.line n).state = .active u)
    (hd : u.endPos ≠ s.measurePos u.measure) : s.pulseEnd n = s := by
  simp only [State.pulseEnd, h, State.endDue, hd, decide_false, Bool.false_eq_true, if_false]

/-! ### MAX_ON_EXPIRY (R118, R120) -/

theorem State.maxOnExpiry_overtime {u : Pulse} (h : (s.line n).state = .active u) (hg : u.guard = some s.t)
    (hd : ¬ (u.measure = .time ∧ u.endPos = s.t)) :
    s.maxOnExpiry n = (s.offer (lineOvertimeReport n u.origin s.t)).endPulse n u .overtime := by
  simp only [State.maxOnExpiry, h, hg, hd, if_true, if_false]

/-- The tick at which a TIME pulse ends and its guard expires ends it NORMAL (R120). -/
theorem State.maxOnExpiry_normal {u : Pulse} (h : (s.line n).state = .active u) (hg : u.guard = some s.t)
    (hm : u.measure = .time) (he : u.endPos = s.t) : s.maxOnExpiry n = s.pulseEnd n := by
  have hdue : u.endPos = s.measurePos u.measure := by rw [hm, he]; rfl
  rw [State.pulseEnd_due h hdue]
  simp only [State.maxOnExpiry, h, hg, hm, he, and_self, if_true]

theorem State.maxOnExpiry_not_due {u : Pulse} (h : (s.line n).state = .active u) (hg : u.guard ≠ some s.t) :
    s.maxOnExpiry n = s := by
  simp only [State.maxOnExpiry, h, hg, if_false]

/-- A record offered before the pulse ends is the first of the end's records (R120). -/
theorem State.offer_endPulse (s : State) (n : Fin 16) (u : Pulse) (r : EndReason) (x : Report) :
    (s.offer x).endPulse n u r =
      { s with queue := Claims.offers s.queue (x :: Claims.fireDone s n (s.line n) u r) }.setLine n
        (Claims.lineAfterEnd s (s.line n)) := by
  rw [State.endPulse_eq]
  have hafter : Claims.lineAfterEnd (s.offer x) (s.line n) = Claims.lineAfterEnd s (s.line n) := by
    unfold Claims.lineAfterEnd State.pulseFor
    simp only [State.measurePos_congr (s := s) (t := s.offer x) fun ax => s.offer_pos x ax]
    rfl
  exact congrArg _ hafter

/-! ### RECOVERY_END (R122) -/

theorem State.recoveryEnd_starts {q : FiringRequest} (h : (s.line n).state = .recovery s.t)
    (hs : (s.line n).slot = some q) :
    s.recoveryEnd n = s.setLine n { s.line n with
      state := .active (s.pulseFor (s.line n) q true), slot := none
      sampleTime := Claims.sampleAfter (s.line n) s.t } := by
  have hsample : (s.startPending (s.line n) q).scheduleSample s.t =
      { s.line n with
        state := .active (s.pulseFor (s.line n) q true), slot := none
        sampleTime := Claims.sampleAfter (s.line n) s.t } :=
    Line.enterSampled_eq { s.line n with slot := none } _ s.t (by simp)
  simp only [State.recoveryEnd, h, hs, if_true, hsample]

theorem State.recoveryEnd_idles (h : (s.line n).state = .recovery s.t) (hs : (s.line n).slot = none) :
    s.recoveryEnd n = s.setLine n { s.line n with state := .idle } := by
  simp only [State.recoveryEnd, h, hs, if_true]

theorem State.recoveryEnd_not_due {e : Pos} (h : (s.line n).state = .recovery e) (he : e ≠ s.t) :
    s.recoveryEnd n = s := by
  simp only [State.recoveryEnd, h, he, if_false]

/-- Settles O58: each row by what is due of the line's record. -/
theorem pulsesAndRecoveriesEnd : Obligations.PulsesAndRecoveriesEnd := by
  intro s n l
  refine ⟨fun u h hd => congrArg Host.Outcome.next ?pulseEnds, fun u h hd => congrArg Host.Outcome.next ?endNotDue,
    fun u h hg hd => congrArg Host.Outcome.next ?overtime, fun u h hg hm he => congrArg Host.Outcome.next ?both,
    fun u h hg => congrArg Host.Outcome.next ?guardNotDue, fun q h hs => congrArg Host.Outcome.next ?starts,
    fun h hs => congrArg Host.Outcome.next ?idles, fun e h he => congrArg Host.Outcome.next ?recoveryNotDue⟩
  case pulseEnds => exact (State.pulseEnd_due h hd).trans (s.endPulse_eq n u .normal)
  case endNotDue => exact State.pulseEnd_not_due h hd
  case overtime => exact (State.maxOnExpiry_overtime h hg hd).trans (s.offer_endPulse n u .overtime _)
  case both => exact State.maxOnExpiry_normal h hg hm he
  case guardNotDue => exact State.maxOnExpiry_not_due h hg
  case starts => exact State.recoveryEnd_starts h hs
  case idles => exact State.recoveryEnd_idles h hs
  case recoveryNotDue => exact State.recoveryEnd_not_due h he

end Sys2Proof.Machine
end

section
/-!
The packets of the lines: LINE_CONTROL in its four actions and CONFIG_LINE (R107 to R112, R132).
-/
namespace Sys2Proof.Machine

variable {s t : State}

/-! ### The packets read back -/

theorem decodeBody_lineControl (mask : Word) (a : LineAction) :
    decodeBody .lineControl (Packet.lineControl mask a).body = some (.lineControl mask a) := by
  have ha : (BitVec.ofNat 16 a.code).toNat = a.code := by cases a <;> rfl
  have hf : decodeFields .lineControl (Packet.lineControl mask a).body = some (.lineControl mask a) := by
    unfold decodeFields
    simp only [Packet.body, ha, decodeLineAction_code, Option.bind_eq_bind, Option.bind_some]
  simp only [decodeBody, hf, Packet.wf, if_true]

theorem decodeBody_configLine (n : Fin 16) (cfg : LineConfig) (mon : MonitorConfig) :
    decodeBody .configLine (Packet.configLine n cfg mon).body = some (.configLine n cfg mon) := by
  obtain ⟨policy, minOff, maxOn, reports⟩ := cfg
  obtain ⟨enable, settle, interval, threshold, action⟩ := mon
  have hn : n.val % 2 ^ 8 = n.val := Nat.mod_eq_of_lt (by omega)
  have hp : policy.code % 2 ^ 8 = policy.code := by cases policy <;> rfl
  have hr : flagCode reports % 2 ^ 8 = flagCode reports := by cases reports <;> rfl
  have he : flagCode enable % 2 ^ 8 = flagCode enable := by cases enable <;> rfl
  have ha : action.code % 2 ^ 8 = action.code := by cases action <;> rfl
  have hk : threshold.toNat % 2 ^ 8 = threshold.toNat := by cases threshold <;> rfl
  have hs : (settle.setWidth 16).toNat = settle.toFin.val := by
    rw [BitVec.toNat_setWidth]
    exact Nat.mod_eq_of_lt (by have := settle.isLt; omega)
  have hf : decodeFields .configLine (Packet.configLine n ⟨policy, minOff, maxOn, reports⟩
      ⟨enable, settle, interval, threshold, action⟩).body = some (.configLine n ⟨policy, minOff, maxOn, reports⟩
      ⟨enable, settle, interval, threshold, action⟩) := by
    unfold decodeFields
    simp only [Packet.body, wordOf, loByte_word, hiByte_word, BitVec.toNat_ofNat, hn, hp, hr, he, ha, hk, hs,
      decodeFin_val, decodeCollision_code, decodeFlag_code, decodeMonitorAction_code, decodeThreshold_toNat,
      Option.bind_eq_bind, Option.bind_some]
  simp only [decodeBody, hf, Packet.wf, if_true]

theorem exec_configLine_ready {n : Fin 16} {cfg : LineConfig} {mon : MonitorConfig}
    (h : s.PacketReady (.configLine n cfg mon)) :
    exec .configLine s = .next ((s.configLine n cfg mon).passPacket 7) :=
  congrArg Host.Outcome.next (State.onPacket_ready h (decodeBody_configLine n cfg mon) _)

/-- An action of LINE_CONTROL on one line (R109 to R112). -/
def State.actOnLine (a : LineAction) (s : State) (n : Fin 16) : State :=
  match a with
  | .arm => s.armLine n
  | .disarm => s.disarmLine n
  | .clearFault => s.clearLineFault n
  | .forceOff => s.forceLineOff n

/-- LINE_CONTROL is taken by the row of its action (R108). -/
theorem exec_lineControl_ready {mask : Word} {a : LineAction} (h : s.PacketReady (.lineControl mask a)) :
    exec (Packet.lineControl mask a).row s = .next ((s.forLines mask (State.actOnLine a)).passPacket 2) := by
  have htake := fun take => congrArg (Host.Outcome.next (φ := Fault) (ρ := Refusal))
    (State.onPacket_ready h (decodeBody_lineControl mask a) take)
  cases a with
  | arm => exact htake _
  | disarm => exact htake _
  | clearFault => exact htake _
  | forceOff => exact htake _

/-! ### An action on one line (R109 to R112) -/

@[simp] theorem State.setLine_line (s : State) (n : Fin 16) : s.setLine n (s.line n) = s := by
  simp [State.setLine, State.line]

theorem State.armLine_eq (s : State) (n : Fin 16) :
    s.armLine n =
      { s with queue := Claims.offers s.queue (Claims.lineRecords s .arm n (s.line n)) }.setLine n
        (Claims.lineAfter s .arm (s.line n)) := by
  unfold State.armLine Claims.lineRecords Claims.lineAfter
  dsimp only
  cases h : (s.line n).state with
  | disabled => simp only [Line.enterSampled_eq _ .idle _ (by simp)]; rfl
  | faulted => exact (State.setLine_line (s.refuseLineAction n .arm) n).symm
  | idle | active | recovery => exact (s.setLine_line n).symm

theorem State.disarmLine_eq (s : State) (n : Fin 16) :
    s.disarmLine n =
      { s with queue := Claims.offers s.queue (Claims.lineRecords s .disarm n (s.line n)) }.setLine n
        (Claims.lineAfter s .disarm (s.line n)) := by
  unfold State.disarmLine Claims.lineRecords Claims.lineAfter
  dsimp only
  cases h : (s.line n).state with
  | disabled => exact (s.setLine_line n).symm
  | active u =>
    simp only [State.offerFireDone_eq, State.offerSlotDrop_eq, offers_append]
    rfl
  | idle | recovery | faulted =>
    simp only [State.offerSlotDrop_eq]
    rfl

theorem State.clearLineFault_eq (s : State) (n : Fin 16) :
    s.clearLineFault n =
      { s with queue := Claims.offers s.queue (Claims.lineRecords s .clearFault n (s.line n)) }.setLine n
        (Claims.lineAfter s .clearFault (s.line n)) := by
  unfold State.clearLineFault Claims.lineRecords Claims.lineAfter
  dsimp only
  cases h : (s.line n).state with
  | faulted => simp only [Line.enterSampled_eq _ .idle _ (by simp)]; rfl
  | disabled | idle | active | recovery => exact (State.setLine_line (s.refuseLineAction n .clearFault) n).symm

theorem State.forceLineOff_eq (s : State) (n : Fin 16) :
    s.forceLineOff n =
      { s with queue := Claims.offers s.queue (Claims.lineRecords s .forceOff n (s.line n)) }.setLine n
        (Claims.lineAfter s .forceOff (s.line n)) := by
  unfold State.forceLineOff Claims.lineRecords Claims.lineAfter
  cases h : (s.line n).state with
  | active u => exact s.endPulse_eq n u .forced
  | disabled | idle | recovery | faulted => exact (s.setLine_line n).symm

/-- All that an action does: its records, and its line after it. -/
theorem State.actOnLine_eq (a : LineAction) (s : State) (n : Fin 16) :
    s.actOnLine a n =
      { s with queue := Claims.offers s.queue (Claims.lineRecords s a n (s.line n)) }.setLine n
        (Claims.lineAfter s a (s.line n)) := by
  cases a with
  | arm => exact s.armLine_eq n
  | disarm => exact s.disarmLine_eq n
  | clearFault => exact s.clearLineFault_eq n
  | forceOff => exact s.forceLineOff_eq n

/-! ### The masked lines one after another (R108) -/

/-- The two states differ in their lines and records alone. -/
structure State.SameButLines (s t : State) : Prop where
  restored : { t with lines := s.lines, queue := s.queue } = s

theorem State.SameButLines.refl (s : State) : s.SameButLines s := ⟨rfl⟩

theorem State.SameButLines.trans {u : State} (h : s.SameButLines t) (k : t.SameButLines u) : s.SameButLines u :=
  ⟨(congrArg (fun v : State => { v with lines := s.lines, queue := s.queue }) k.restored).trans h.restored⟩

theorem State.SameButLines.time (h : s.SameButLines t) : t.t = s.t :=
  (congrArg State.t h.restored :)

theorem State.SameButLines.pos (h : s.SameButLines t) (ax : Axis) : t.pos ax = s.pos ax := by
  rw [← congrArg (fun u : State => u.pos ax) h.restored]
  cases ax <;> rfl

/-- A line's passage after a pulse depends on the positions alone. -/
theorem Claims.lineAfterEnd_congr (h : s.SameButLines t) (l : Line) :
    Claims.lineAfterEnd t l = Claims.lineAfterEnd s l := by
  simp only [Claims.lineAfterEnd, State.pulseFor, State.measurePos_congr h.pos, h.time]

theorem Claims.lineAfter_congr (h : s.SameButLines t) (a : LineAction) (l : Line) :
    Claims.lineAfter t a l = Claims.lineAfter s a l := by
  simp only [Claims.lineAfter, Claims.lineAfterEnd_congr h, h.time]

theorem Claims.lineRecords_congr (h : s.SameButLines t) (a : LineAction) (n : Fin 16) (l : Line) :
    Claims.lineRecords t a n l = Claims.lineRecords s a n l := by
  simp only [Claims.lineRecords, Claims.fireDone, h.time]

/-- The action on line `n` where it is masked. -/
def State.actOnMasked (a : LineAction) (mask : Word) (s : State) (n : Fin 16) : State :=
  if mask.getLsbD n.val then s.actOnLine a n else s

/-- The records of the action over the masked lines among `l`, in that order. -/
def recordsOver (s : State) (mask : Word) (a : LineAction) (l : List (Fin 16)) : List Report :=
  l.flatMap fun n => if mask.getLsbD n.val then Claims.lineRecords s a n (s.line n) else []

section Masked

variable (a : LineAction) (mask : Word) (s : State)

theorem State.actOnMasked_sameButLines (n : Fin 16) : s.SameButLines (s.actOnMasked a mask n) := by
  unfold State.actOnMasked
  split
  · rw [State.actOnLine_eq]
    exact ⟨rfl⟩
  · exact .refl s

theorem State.actOnMasked_line_self (n : Fin 16) :
    (s.actOnMasked a mask n).line n =
      if mask.getLsbD n.val then Claims.lineAfter s a (s.line n) else s.line n := by
  unfold State.actOnMasked
  split
  · rw [State.actOnLine_eq, State.line_setLine, if_pos rfl]
  · rfl

theorem State.actOnMasked_line_of_ne {n m : Fin 16} (h : n ≠ m) :
    (s.actOnMasked a mask n).line m = s.line m := by
  unfold State.actOnMasked
  split
  · rw [State.actOnLine_eq, State.line_setLine, if_neg h]
    rfl
  · rfl

theorem State.actOnMasked_queue (n : Fin 16) :
    (s.actOnMasked a mask n).queue = Claims.offers s.queue (recordsOver s mask a [n]) := by
  unfold State.actOnMasked recordsOver
  rw [List.flatMap_singleton]
  split
  · rw [State.actOnLine_eq]
    rfl
  · rfl

theorem State.forLines_eq_foldl :
    s.forLines mask (State.actOnLine a) = allLines.foldl (State.actOnMasked a mask) s := rfl

theorem State.actOnEach_sameButLines (l : List (Fin 16)) : s.SameButLines (l.foldl (State.actOnMasked a mask) s) :=
  List.foldlRecOn _ _ (.refl s) fun t ht n _ => ht.trans (t.actOnMasked_sameButLines a mask n)

theorem recordsOver_allLines :
    recordsOver s mask a allLines = Claims.maskedRecords s mask a := rfl

/-- Among lines named once each, every masked one takes the action for itself. -/
theorem State.actOnEach_line {l : List (Fin 16)} (hl : l.Nodup) (m : Fin 16) :
    (l.foldl (State.actOnMasked a mask) s).line m =
      if m ∈ l ∧ mask.getLsbD m.val = true then Claims.lineAfter s a (s.line m) else s.line m := by
  induction l generalizing s with
  | nil => simp
  | cons n l ih =>
    obtain ⟨hn, hl⟩ := List.nodup_cons.1 hl
    rw [List.foldl_cons, ih _ hl, Claims.lineAfter_congr (s.actOnMasked_sameButLines a mask n)]
    by_cases hm : n = m
    · subst hm
      rw [s.actOnMasked_line_self a mask n]
      simp only [hn, false_and, if_false, List.mem_cons_self, true_and]
    · rw [s.actOnMasked_line_of_ne a mask hm]
      simp only [List.mem_cons, Ne.symm hm, false_or]

/-- The records stand in the order of the lines. -/
theorem State.actOnEach_queue {l : List (Fin 16)} (hl : l.Nodup) :
    (l.foldl (State.actOnMasked a mask) s).queue = Claims.offers s.queue (recordsOver s mask a l) := by
  induction l generalizing s with
  | nil => rfl
  | cons n l ih =>
    obtain ⟨hn, hl⟩ := List.nodup_cons.1 hl
    have hrest : recordsOver (s.actOnMasked a mask n) mask a l = recordsOver s mask a l := by
      refine List.flatMap_congr fun m hm => ?_
      have hne : n ≠ m := fun h => hn (h ▸ hm)
      rw [Claims.lineRecords_congr (s.actOnMasked_sameButLines a mask n), s.actOnMasked_line_of_ne a mask hne]
    rw [List.foldl_cons, ih _ hl, hrest, State.actOnMasked_queue, ← offers_append, recordsOver, recordsOver,
      ← List.flatMap_append]
    rfl

end Masked

/-! ### CONFIG_LINE (R107, R132) -/

theorem State.configLine_disabled {n : Fin 16} (h : (s.line n).state = .disabled) (cfg : LineConfig)
    (mon : MonitorConfig) :
    s.configLine n cfg mon = s.setLine n { s.line n with
      cfg := cfg, mon := mon
      mismatch := if mon = (s.line n).mon then (s.line n).mismatch else 0 } := by
  simp only [State.configLine, h]

theorem State.configLine_busy {n : Fin 16} (h : (s.line n).state ≠ .disabled) (cfg : LineConfig)
    (mon : MonitorConfig) :
    s.configLine n cfg mon = s.offer (cmdRefusedReport .configLine .busy 0 (BitVec.ofNat 16 n.val) 0 0) := by
  unfold State.configLine
  dsimp only
  split
  · exact absurd ‹_› h
  · rfl

/-- Settles O59: each row is the action over the masked lines, and CONFIG_LINE goes by the line's state. -/
theorem linePackets : Obligations.LinePackets := by
  refine ⟨fun s mask a hready => ?control, fun s n cfg mon hready => ?config⟩
  case control =>
    refine ⟨_, exec_lineControl_ready hready, fun n => ?line, ?records, ?frame⟩
    case line =>
      rw [State.passPacket_line, State.forLines_eq_foldl, allLines,
        State.actOnEach_line a mask s (List.nodup_finRange 16)]
      simp only [List.mem_finRange, true_and]
    case records =>
      rw [State.passPacket_queue, State.forLines_eq_foldl, ← recordsOver_allLines]
      exact s.actOnEach_queue a mask (List.nodup_finRange 16)
    case frame =>
      exact congrArg (fun u : State => { u with ring := s.ring, parser := s.parser })
        (s.actOnEach_sameButLines a mask allLines).restored
  case config =>
    rw [exec_configLine_ready hready]
    exact ⟨fun h => by rw [State.configLine_disabled h], fun h => by rw [State.configLine_busy h]; rfl⟩

end Sys2Proof.Machine
end

section
/-!
What an event keeps of a line: its configuration, the state FAULTED, and the bounds of R106 and R131. The events of one
line.
-/
namespace Sys2Proof.Machine

/-! ### One line -/

/-- What every event but CONFIG_LINE, DISARM, CLEAR_FAULT and HARDWARE_RESET keeps of a line: its configuration and
monitor fields, the state FAULTED, and its soundness (R106, R107, R123, R131). -/
structure Line.GoesOn (l m : Line) : Prop where
  cfg : m.cfg = l.cfg
  mon : m.mon = l.mon
  faulted : l.state = .faulted → m.state = .faulted
  sound : l.Sound → m.Sound

theorem Line.GoesOn.refl (l : Line) : l.GoesOn l := ⟨rfl, rfl, id, id⟩

theorem Line.GoesOn.trans {l m k : Line} (h : l.GoesOn m) (h' : m.GoesOn k) : l.GoesOn k :=
  ⟨h'.cfg.trans h.cfg, h'.mon.trans h.mon, fun hf => h'.faulted (h.faulted hf), fun hs => h'.sound (h.sound hs)⟩

theorem Threshold.toNat_pos (k : Threshold) : 0 < k.toNat := by cases k <;> decide

theorem Line.watching_eq_false_iff (l : Line) :
    l.watching = false ↔ l.mon.enable = false ∨ l.state = .disabled := by
  unfold Line.watching
  cases l.mon.enable <;> simp

theorem Claims.sampleAfter_off {l : Line} (h : l.mon.enable = false) (t : Pos) :
    Claims.sampleAfter l t = l.sampleTime := by
  simp [Claims.sampleAfter, h]

theorem Line.Sound.count_lt {l : Line} (h : l.Sound) : l.mismatch < l.mon.threshold.toNat := by
  obtain ⟨-, hcount, -⟩ := h
  exact hcount

theorem Line.Sound.of_unwatched {l : Line} (h : l.Sound) (hw : l.watching = false) :
    l.sampleTime = none ∧ l.mismatch = 0 := by
  obtain ⟨-, -, hidle⟩ := h
  exact hidle hw

/-- A line whose monitor is off holds no sample time and a count of 0 (R131). -/
theorem Line.Sound.of_off {l : Line} (h : l.Sound) (hoff : l.mon.enable = false) :
    l.sampleTime = none ∧ l.mismatch = 0 := h.of_unwatched (l.watching_eq_false_iff.2 (.inl hoff))

/-- The slot of a line that is neither ACTIVE nor in RECOVERY is empty (R106). -/
theorem Line.Sound.slot_of_not_busy {l : Line} (h : l.Sound) (hb : l.busy = false) : l.slot = none := by
  by_contra hne
  have hbusy := (h.1 (Option.isSome_iff_ne_none.2 hne)).2
  rw [hb] at hbusy
  cases hbusy

/-- A line that an event takes to a state other than DISABLED: a FAULTED line stays FAULTED, a slot is occupied under
DEFER while busy alone, and where the monitor is off the sample time stands. -/
theorem Line.GoesOn.live {l : Line} {st : LineState} {q : Option FiringRequest} {x : Option Pos}
    (hlive : st ≠ .disabled) (hfault : l.state = .faulted → st = .faulted)
    (hslot : l.Sound → q.isSome = true → l.cfg.policy = .defer ∧ Line.busy { l with state := st } = true)
    (hsample : l.mon.enable = false → x = l.sampleTime) :
    l.GoesOn { l with state := st, slot := q, sampleTime := x } := by
  refine ⟨rfl, rfl, hfault, fun hs => ⟨hslot hs, hs.count_lt, fun hw => ?_⟩⟩
  obtain hoff | hdis := (Line.watching_eq_false_iff _).1 hw
  · exact ⟨(hsample hoff).trans (hs.of_off hoff).1, (hs.of_off hoff).2⟩
  · exact absurd hdis hlive

/-- The same with the slot kept: a busy line stays busy. -/
theorem Line.GoesOn.live_slot {l : Line} {st : LineState} {x : Option Pos}
    (hlive : st ≠ .disabled) (hfault : l.state = .faulted → st = .faulted)
    (hbusy : l.busy = true → Line.busy { l with state := st } = true)
    (hsample : l.mon.enable = false → x = l.sampleTime) :
    l.GoesOn { l with state := st, sampleTime := x } :=
  .live hlive hfault (fun hs hq => ⟨(hs.1 hq).1, hbusy (hs.1 hq).2⟩) hsample

/-! ### The events of one line -/

/-- An answer to a firing request (R113 to R117). -/
theorem State.answer_goesOn (s : State) (n : Fin 16) (q : FiringRequest) :
    (s.line n).GoesOn (s.answer n q).1 := by
  have hdefer : (s.line n).busy = true → (s.line n).cfg.policy = .defer →
      (s.line n).GoesOn (s.answer n q).1 := fun hb hp => by
    by_cases hslot : (s.line n).slot = none
    · rw [State.answer_defer hb hp hslot]
      refine ⟨rfl, rfl, id, fun hs => ⟨fun _ => ⟨hp, hb⟩, hs.2⟩⟩
    · rw [State.answer_occupied hb hp hslot]
      exact .refl _
  cases hst : (s.line n).state with
  | disabled => rw [State.answer_disabled hst]; exact .refl _
  | faulted => rw [State.answer_faulted hst]; exact .refl _
  | idle =>
    rw [State.answer_idle hst]
    exact .live_slot (by simp) (by simp [hst]) (fun _ => rfl) fun h => Claims.sampleAfter_off h _
  | active u =>
    have hb : (s.line n).busy = true := (s.line n).busy_iff.2 (.inl ⟨u, hst⟩)
    cases hp : (s.line n).cfg.policy with
    | reject => rw [State.answer_reject hb hp]; exact .refl _
    | defer => exact hdefer hb hp
    | extend =>
      by_cases hm : u.measure = q.measure
      · rw [State.answer_extend hst hp hm]
        exact .live_slot (by simp) (by simp [hst]) (fun _ => rfl) fun _ => rfl
      · rw [State.answer_mismatch hst hp hm]; exact .refl _
  | recovery e =>
    have hb : (s.line n).busy = true := (s.line n).busy_iff.2 (.inr ⟨e, hst⟩)
    cases hp : (s.line n).cfg.policy with
    | reject => rw [State.answer_reject hb hp]; exact .refl _
    | defer => exact hdefer hb hp
    | extend => rw [State.answer_recovery_extend hst hp]; exact .refl _

/-- The passage after a pulse: the slot is kept in RECOVERY alone (R121, R122). -/
theorem Claims.lineAfterEnd_goesOn (s : State) {l : Line} {u : Pulse} (h : l.state = .active u) :
    l.GoesOn (Claims.lineAfterEnd s l) := by
  have hfault : l.state = .faulted → ∀ st : LineState, st = .faulted := fun hf => by rw [h] at hf; cases hf
  unfold Claims.lineAfterEnd
  split
  · exact .live_slot (by simp) (fun hf => hfault hf _) (fun _ => rfl) fun h => Claims.sampleAfter_off h _
  · cases hq : l.slot with
    | some q => exact .live (by simp) (fun hf => hfault hf _) (fun _ h => by cases h) fun _ => rfl
    | none =>
      refine .live (by simp) (fun hf => hfault hf _) (fun _ h => ?_) fun h => Claims.sampleAfter_off h _
      cases h

/-- A sample sets the count below K (R134, R135). -/
theorem Line.sampled_goesOn {l : Line} (hw : l.watching = true) (t : Pos) (sense : Bool) :
    l.GoesOn (l.sampled t sense).1 := by
  have hkeeps : ∀ k, k < l.mon.threshold.toNat →
      l.GoesOn { l with lastSense := sense, sampleTime := l.nextSample t, mismatch := k } := fun k hk =>
    ⟨rfl, rfl, id, fun hs => ⟨hs.1, hk, fun h => absurd (h.symm.trans hw) (by simp)⟩⟩
  unfold Line.sampled
  dsimp only
  repeat' split
  · exact hkeeps 0 (Threshold.toNat_pos _)
  · exact hkeeps 0 (Threshold.toNat_pos _)
  · exact hkeeps _ (by omega)

/-- A backward change moves an end position alone (R119). -/
theorem Line.backward_goesOn (enc : Enc) (p : Pos) (l : Line) : l.GoesOn (l.backward enc p) := by
  unfold Line.backward
  split
  · split
    · exact .live_slot (by simp) (by simp [*]) (fun _ => rfl) fun _ => rfl
    · exact .refl l
  · exact .refl l

/-- ENGINE_RESET empties the slot and zeroes the count (R129, R143). -/
theorem Line.engineReset_goesOn (t : Pos) (l : Line) : l.GoesOn (l.engineReset t) := by
  rw [Line.engineReset_eq]
  refine ⟨rfl, rfl, fun hf => ?_, fun _ => ⟨fun h => ?_, Threshold.toNat_pos _, fun hw => ?_⟩⟩
  · simp [Line.busy, hf]
  · cases h
  have hunwatched : l.watching = false := by
    obtain hoff | hdis := (Line.watching_eq_false_iff _).1 hw
    · exact l.watching_eq_false_iff.2 (.inl hoff)
    · refine l.watching_eq_false_iff.2 (.inr ?_)
      by_contra hne
      dsimp only at hdis
      split at hdis
      · cases hdis
      · exact hne hdis
  exact ⟨by rw [hunwatched]; rfl, rfl⟩

/-- ARM takes a DISABLED line to IDLE (R109). -/
theorem Claims.lineAfter_arm_goesOn (s : State) (l : Line) : l.GoesOn (Claims.lineAfter s .arm l) := by
  cases h : l.state with
  | disabled =>
    simp only [Claims.lineAfter, h]
    exact .live_slot (by simp) (by simp [h]) (by simp [Line.busy, h]) fun h => Claims.sampleAfter_off h _
  | idle | active | recovery | faulted =>
    simp only [Claims.lineAfter, h]
    exact .refl l

/-- FORCE_OFF ends an ACTIVE pulse (R112). -/
theorem Claims.lineAfter_forceOff_goesOn (s : State) (l : Line) : l.GoesOn (Claims.lineAfter s .forceOff l) := by
  cases h : l.state with
  | active u =>
    simp only [Claims.lineAfter, h]
    exact Claims.lineAfterEnd_goesOn s h
  | disabled | idle | recovery | faulted =>
    simp only [Claims.lineAfter, h]
    exact .refl l

end Sys2Proof.Machine
end

section
/-!
The events that leave the lines as they are: those of the items, of the detectors and of the parser, and the registers.
-/
namespace Sys2Proof.Machine

variable (s : State)

/-! ### Items and entries -/

@[simp] theorem State.tally_lines (h : Handle) (a : Answer) : (s.tally h a).lines = s.lines := by
  unfold State.tally; split <;> rfl

@[simp] theorem State.applyDefault_lines (h : Handle) (i : Fin 128) (ax : Axis) (p : Pos) :
    (s.applyDefault h i ax p).lines = s.lines := by
  unfold State.applyDefault; repeat' split
  all_goals rfl

@[simp] theorem State.markLate_lines (h : Handle) : (s.markLate h).lines = s.lines := by
  unfold State.markLate; split <;> rfl

@[simp] theorem State.lowerPending_lines (h : Handle) : (s.lowerPending h).lines = s.lines := by
  unfold State.lowerPending; dsimp only; repeat' split
  all_goals rfl

@[simp] theorem State.engineNotice_lines (before : State) : (s.engineNotice before).lines = s.lines := by
  rcases s.engineNotice_cases before with h | ⟨-, -, h⟩ <;> rw [h]

@[simp] theorem State.tellLate_lines (ax : Axis) (e : Entry) : (s.tellLate ax e).lines = s.lines := by
  unfold State.tellLate; repeat' split
  all_goals simp

@[simp] theorem State.freeEntry_lines (e : Entry) : (s.freeEntry e).lines = s.lines := by
  unfold State.freeEntry; dsimp only; split <;> simp

@[simp] theorem State.expire_lines (ax : Axis) (p : Pos) : (s.expire ax p).lines = s.lines :=
  List.foldlRecOn (motive := fun t : State => t.lines = s.lines) _ _ (s.setList_lines ax _) fun t ht e _ =>
    (t.freeEntry_lines e).trans ht

theorem State.insertEntries_lines (ax : Axis) (es : List Entry) :
    (es.foldl (fun s e => s.insert ax e) s).lines = s.lines :=
  List.foldlRecOn (motive := fun t : State => t.lines = s.lines) _ _ rfl fun t ht e _ =>
    (t.insert_lines ax e).trans ht

@[simp] theorem State.removeEntries_lines (p : Entry → Bool) : (s.removeEntries p).lines = s.lines :=
  List.foldlRecOn (motive := fun t : State => t.lines = s.lines) _ _ rfl fun _ ht _ _ => ht

theorem State.cancelItem_lines (h : Handle) : (s.cancelItem h).lines = s.lines := by
  unfold State.cancelItem; split <;> simp

theorem State.cancelTag_lines (tag : Word) : (s.cancelTag tag).lines = s.lines := by simp [State.cancelTag]

theorem State.verdict_lines (h : Handle) (v : Verdict) (tag : Word) : (s.verdict h v tag).lines = s.lines := by
  unfold State.verdict; repeat' split
  all_goals rfl

/-! ### Detectors and axes -/

theorem State.lockoutEnd_lines (n : Fin 8) : (s.lockoutEnd n).lines = s.lines := by
  unfold State.lockoutEnd; dsimp only; split <;> rfl

theorem State.configDetector_lines (n : Fin 8) (cfg : DetectorConfig) :
    (s.configDetector n cfg).lines = s.lines := by
  unfold State.configDetector; dsimp only; split <;> rfl

theorem State.enableDetector_lines (n : Fin 8) : (s.enableDetector n).lines = s.lines := by
  unfold State.enableDetector; dsimp only; split <;> rfl

theorem State.eachDetector_lines {f : State → Fin 8 → State} (h : ∀ (t : State) n, (f t n).lines = t.lines) :
    (s.eachDetector f).lines = s.lines :=
  List.foldlRecOn (motive := fun t : State => t.lines = s.lines) _ _ rfl fun t ht n _ => (h t n).trans ht

theorem State.forDetectors_lines (mask : ByteField) {act : State → Fin 8 → State}
    (h : ∀ (t : State) n, (act t n).lines = t.lines) : (s.forDetectors mask act).lines = s.lines :=
  s.eachDetector_lines (f := fun s n => if mask.getLsbD n.val then act s n else s) fun t n => by
    split
    exacts [h t n, rfl]

theorem State.configAxis_lines (enc : Enc) (c : AxisSettings) : (s.configAxis enc c).lines = s.lines := by
  unfold State.configAxis; dsimp only; repeat' split
  all_goals simp

theorem State.presetAxis_lines (enc : Enc) (p : Pos) : (s.presetAxis enc p).lines = s.lines := by
  unfold State.presetAxis; dsimp only; split <;> simp

/-! ### The parser, the Recipe Store, the registers and Engine Control -/

theorem State.setStaging_lines (b : Bank) : (s.setStaging b).lines = s.lines := s.setBank_lines _ b

theorem State.switchBank_lines : s.switchBank.lines = s.lines := by
  unfold State.switchBank; split <;> rfl

theorem State.fenceNotice_lines : s.fenceNotice.lines = s.lines := by
  unfold State.fenceNotice; repeat' split
  all_goals rfl

theorem State.fenceTimeout_lines : s.fenceTimeout.lines = s.lines := by
  unfold State.fenceTimeout; repeat' split
  all_goals rfl

theorem State.takeFence_lines (f : FenceFields) (len : Nat) : (s.takeFence f len).lines = s.lines := by
  unfold State.takeFence; split <;> rfl

theorem State.takeHeader_lines : s.takeHeader.lines = s.lines := by
  unfold State.takeHeader; dsimp only; repeat' split
  all_goals rfl

theorem State.startParser_lines : s.startParser.lines = s.lines := by
  unfold State.startParser; split <;> rfl

theorem State.stopParser_lines : s.stopParser.lines = s.lines := by
  unfold State.stopParser; split <;> rfl

theorem State.quiesce_lines : s.quiesce.lines = s.lines := by
  unfold State.quiesce; repeat' split
  all_goals rfl

theorem State.ringData_lines (w : Word) : (s.ringData w).lines = s.lines := by
  unfold State.ringData; split <;> rfl

theorem State.resync_lines (w : Word) : (s.resync w).lines = s.lines := by
  unfold State.resync; split <;> rfl

theorem State.irqStatusWrite_lines (w : Word) : (s.irqStatusWrite w).lines = s.lines := by
  unfold State.irqStatusWrite; split <;> rfl

theorem State.watermarkWrite_lines (w : Word) : (s.watermarkWrite w).lines = s.lines := by
  unfold State.watermarkWrite; split <;> rfl

theorem State.spaceLevelWrite_lines (w : Word) : (s.spaceLevelWrite w).lines = s.lines := by
  unfold State.spaceLevelWrite; split <;> rfl

theorem State.posSelectWrite_lines (w : Word) : (s.posSelectWrite w).lines = s.lines := by
  unfold State.posSelectWrite; split <;> rfl

theorem State.lineSelectWrite_lines (w : Word) : (s.lineSelectWrite w).lines = s.lines := by
  unfold State.lineSelectWrite; split <;> rfl

/-- A bus write leaves the lines alone, or is the write of ENGINE_RESET to CMD (R197). -/
theorem State.busWrite_lines (offset : BitVec 5) (w : Word) :
    (s.busWrite offset w).lines = s.lines ∨ s.busWrite offset w = s.engineReset := by
  unfold State.busWrite; split
  · split
    · rename_i c _
      cases c with
      | startParser => exact .inl s.startParser_lines
      | stopParser => exact .inl s.stopParser_lines
      | ringReset => exact .inl rfl
      | quiesce => exact .inl s.quiesce_lines
      | resume => exact .inl rfl
      | engineReset => exact .inr rfl
    · exact .inl rfl
  · exact .inl (s.ringData_lines w)
  · exact .inl rfl
  · exact .inl rfl
  · exact .inl (s.resync_lines w)
  · exact .inl (s.spaceLevelWrite_lines w)
  · exact .inl (s.irqStatusWrite_lines w)
  · exact .inl rfl
  · exact .inl (s.watermarkWrite_lines w)
  · exact .inl rfl
  · exact .inl (s.posSelectWrite_lines w)
  · exact .inl (s.lineSelectWrite_lines w)
  · exact .inl rfl

end Sys2Proof.Machine
end

section
/-!
The lines under every command: what each event makes of a line, and with it the bounds of R106 and R131, the
configuration (R107, R132) and the state FAULTED (R123).
-/
namespace Sys2Proof

/-- The rows in which the parser takes CONFIG_LINE and LINE_CONTROL (R107 to R112). -/
def Instr.isLinePacket : Instr → Bool
  | .configLine | .arm | .disarm | .clearFault | .forceOff => true
  | _ => false

end Sys2Proof

namespace Sys2Proof.Machine

/-! ### All sixteen lines -/

/-- Every line goes on. -/
structure State.LinesGoOn (s t : State) : Prop where
  line : ∀ n : Fin 16, (s.line n).GoesOn (t.line n)

theorem State.LinesGoOn.refl (s : State) : s.LinesGoOn s := ⟨fun n => .refl (s.line n)⟩

theorem State.LinesGoOn.trans {s t u : State} (h : s.LinesGoOn t) (k : t.LinesGoOn u) : s.LinesGoOn u :=
  ⟨fun n => (h.line n).trans (k.line n)⟩

theorem State.LinesGoOn.of_lines {s t : State} (h : t.lines = s.lines) : s.LinesGoOn t :=
  ⟨fun n => by rw [State.line_congr h]; exact .refl _⟩

theorem State.LinesGoOn.then_lines {s t u : State} (h : s.LinesGoOn t) (k : u.lines = t.lines) : s.LinesGoOn u :=
  h.trans (.of_lines k)

/-- One line replaced by what goes on from it. -/
theorem State.LinesGoOn.setLine {s : State} {n : Fin 16} {l : Line} (h : (s.line n).GoesOn l) :
    s.LinesGoOn (s.setLine n l) := ⟨fun m => by
  rw [State.line_setLine]
  split
  · subst_vars; exact h
  · exact .refl _⟩

theorem State.LinesGoOn.mapLines {s : State} {f : Line → Line} (h : ∀ l : Line, l.GoesOn (f l)) :
    s.LinesGoOn (s.mapLines f) := ⟨fun n => by rw [State.line_mapLines]; exact h _⟩

variable (s : State)

/-! ### The events of the Schedule and of the Item Table (R24, R31, R38, R54) -/

theorem State.request_linesGoOn (n : Fin 16) (q : FiringRequest) : s.LinesGoOn (s.request n q).1 := by
  rw [State.request_eq]
  exact (State.LinesGoOn.setLine (s.answer_goesOn n q)).then_lines rfl

/-- A request and the tally of its answer, from a part with the same lines. -/
theorem State.request_tally_linesGoOn {s t : State} (hl : t.lines = s.lines) (n : Fin 16) (q : FiringRequest)
    (h : Handle) : s.LinesGoOn ((t.request n q).1.tally h (t.request n q).2) :=
  ((State.LinesGoOn.of_lines hl).trans (t.request_linesGoOn n q)).then_lines (State.tally_lines _ h _)

theorem State.actOn_linesGoOn (ax : Axis) (e : Entry) : s.LinesGoOn (s.actOn ax e) := by
  unfold State.actOn; dsimp only; split
  · exact .of_lines (s.applyDefault_lines _ _ _ _)
  · exact .refl s
  · exact s.request_linesGoOn _ _
  · split
    · split
      · exact State.request_tally_linesGoOn rfl _ _ _
      · exact .refl s
    · split
      · exact State.request_tally_linesGoOn (s.applyDefault_lines _ _ _ _) _ _ _
      · exact .of_lines (s.applyDefault_lines _ _ _ _)

theorem State.release_linesGoOn (ax : Axis) (e : Entry) : s.LinesGoOn (s.release ax e) := by
  have hacted := (s.actOn_linesGoOn ax e).then_lines (State.tellLate_lines _ ax e)
  unfold State.release; dsimp only; split
  · exact hacted.then_lines (State.freeEntry_lines _ e)
  · exact hacted.then_lines (State.insert_lines _ ax _)

theorem State.releasePass_linesGoOn (ax : Axis) : s.LinesGoOn (s.releasePass ax) :=
  State.passLoop_induct State.LinesGoOn State.LinesGoOn.refl
    (fun _ t _ rest h _ _ => (h.then_lines (t.setList_lines ax rest)).trans (State.release_linesGoOn _ ax _)) _ s

theorem State.passEvent_linesGoOn (ax : Axis) : s.LinesGoOn (s.passEvent ax) :=
  (s.releasePass_linesGoOn ax).then_lines (State.engineNotice_lines _ s)

theorem State.admitItem_linesGoOn (q : AdmissionRequest) : s.LinesGoOn (s.admitItem q) := by
  unfold State.admitItem State.admitTo; dsimp only; split
  · refine .trans (.of_lines ?_) (State.releasePass_linesGoOn _ _)
    exact State.insertEntries_lines _ _ _
  · exact .refl s

theorem State.injectItem_linesGoOn (r : Fin 16) (backdate tag : Word) :
    s.LinesGoOn (s.injectItem r backdate tag) := by
  unfold State.injectItem; split
  · exact .of_lines rfl
  · exact s.admitItem_linesGoOn _

theorem State.scheduleFire_linesGoOn (f : FireFields) : s.LinesGoOn (s.scheduleFire f) := by
  unfold State.scheduleFire; split
  · exact .of_lines rfl
  · unfold State.fireNow; split
    · exact .refl s
    · refine .trans (.of_lines ?_) (State.releasePass_linesGoOn _ _)
      exact State.insert_lines _ _ _

/-! ### Detections (R92, R94, R95) -/

theorem State.detect_linesGoOn (n : Fin 8) (c : Capture) : s.LinesGoOn (s.detect n c) := by
  unfold State.detect State.detectionEvent; dsimp only; split
  · exact .of_lines rfl
  · exact (s.admitItem_linesGoOn _).then_lines rfl

theorem State.qualificationComplete_linesGoOn (n : Fin 8) : s.LinesGoOn (s.qualificationComplete n) := by
  unfold State.qualificationComplete; dsimp only; split
  · split
    · exact s.detect_linesGoOn n _
    · exact .refl s
  · exact .refl s

theorem State.startQualifying_linesGoOn (n : Fin 8) : s.LinesGoOn (s.startQualifying n) := by
  unfold State.startQualifying; dsimp only; split
  · exact (State.LinesGoOn.of_lines (s.setDet_lines n _)).trans (State.detect_linesGoOn _ n _)
  · exact .of_lines rfl

theorem State.detectorEdge_linesGoOn (n : Fin 8) (level : Bool) : s.LinesGoOn (s.detectorEdge n level) := by
  unfold State.detectorEdge; dsimp only; repeat' split
  · exact .refl s
  · exact .of_lines rfl
  · exact .of_lines rfl
  · exact (State.LinesGoOn.of_lines (s.setDet_lines n _)).trans (State.startQualifying_linesGoOn _ n)
  · exact .of_lines rfl
  · exact .of_lines rfl
  · exact .of_lines rfl

/-! ### The lines' own events (R118 to R123, R134) -/

theorem State.endPulse_linesGoOn {s : State} {n : Fin 16} {u : Pulse} (h : (s.line n).state = .active u)
    (r : EndReason) : s.LinesGoOn (s.endPulse n u r) := by
  rw [State.endPulse_eq]
  exact (State.LinesGoOn.setLine (Claims.lineAfterEnd_goesOn s h)).then_lines rfl

theorem State.pulseEnd_linesGoOn (n : Fin 16) : s.LinesGoOn (s.pulseEnd n) := by
  unfold State.pulseEnd; split
  · split
    · exact State.endPulse_linesGoOn ‹_› _
    · exact .refl s
  · exact .refl s

theorem State.maxOnExpiry_linesGoOn (n : Fin 16) : s.LinesGoOn (s.maxOnExpiry n) := by
  unfold State.maxOnExpiry; repeat' split
  · exact State.endPulse_linesGoOn ‹_› _
  · exact (State.LinesGoOn.of_lines (s.offer_lines _)).trans (State.endPulse_linesGoOn (s := s.offer _) ‹_› _)
  · exact .refl s
  · exact .refl s

theorem State.recoveryEnd_linesGoOn (n : Fin 16) : s.LinesGoOn (s.recoveryEnd n) := by
  cases hst : (s.line n).state with
  | recovery e =>
    by_cases he : e = s.t
    · subst he
      cases hq : (s.line n).slot with
      | some q =>
        rw [State.recoveryEnd_starts hst hq]
        exact .setLine (.live (by simp) (by simp [hst]) (fun _ h => by cases h)
          fun h => Claims.sampleAfter_off h _)
      | none =>
        rw [State.recoveryEnd_idles hst hq]
        exact .setLine (.live (by simp) (by simp [hst]) (fun _ h => by rw [hq] at h; cases h) fun _ => rfl)
    · rw [State.recoveryEnd_not_due hst he]; exact .refl s
  | disabled | idle | active | faulted => simp only [State.recoveryEnd, hst]; exact .refl s

/-- The shutdown of a line leaves it FAULTED with an empty slot (R123). -/
theorem State.shutdown_linesGoOn (n : Fin 16) : s.LinesGoOn (s.shutdown n) := by
  unfold State.shutdown; split
  · simp only [State.offerFireDone_eq, State.offerSlotDrop_eq, Line.enterSampled_eq _ .faulted _ (by simp)]
    exact (State.LinesGoOn.setLine (.live (by simp) (fun _ => rfl) (fun _ h => by cases h)
      fun h => Claims.sampleAfter_off h _)).then_lines rfl
  · simp only [State.offerSlotDrop_eq]
    exact (State.LinesGoOn.setLine (.live (by simp) (fun _ => rfl) (fun _ h => by cases h)
      fun _ => rfl)).then_lines rfl

theorem State.raiseFault_linesGoOn (n : Fin 16) (before : Line) : s.LinesGoOn (s.raiseFault n before) := by
  have hkind : s.LinesGoOn (s.setLine n { s.line n with lastFault := faultKindOf before.drive }) :=
    .setLine ⟨rfl, rfl, id, id⟩
  unfold State.raiseFault; dsimp only
  refine State.LinesGoOn.then_lines ?_ (State.offer_lines _ _)
  split
  · exact hkind
  · exact hkind.trans (State.shutdown_linesGoOn _ n)

theorem State.monitorSample_linesGoOn (n : Fin 16) : s.LinesGoOn (s.monitorSample n) := by
  unfold State.monitorSample; dsimp only; split
  · rename_i hw
    have hsampled := State.LinesGoOn.setLine (s := s) (Line.sampled_goesOn hw.1 s.t (s.sense n))
    unfold State.takeSample; dsimp only
    split
    · rename_i h; rw [h] at hsampled; exact hsampled
    · rename_i h
      rw [h] at hsampled
      split
      · exact hsampled
      · exact hsampled.trans (State.raiseFault_linesGoOn _ n _)
  · exact .refl s

/-! ### The events owed (R4), and the moves of the axes -/

theorem State.eachLine_linesGoOn {f : State → Fin 16 → State} (h : ∀ (t : State) n, t.LinesGoOn (f t n)) :
    s.LinesGoOn (s.eachLine f) :=
  List.foldlRecOn _ _ (.refl s) fun t ht n _ => ht.trans (h t n)

theorem State.settleAxis_linesGoOn (enc : Enc) : s.LinesGoOn (s.settleAxis enc) := by
  have hlock : ∀ t : State, (t.eachDetector (State.lockoutEndOn enc.axis)).lines = t.lines := fun t =>
    t.eachDetector_lines fun u n => by
      unfold State.lockoutEndOn; split
      exacts [u.lockoutEnd_lines n, rfl]
  have hpulse : ∀ t : State, t.LinesGoOn (t.eachLine (State.pulseEndOn enc)) := fun t =>
    t.eachLine_linesGoOn fun u n => by
      unfold State.pulseEndOn; repeat' split
      exacts [u.pulseEnd_linesGoOn n, .refl u, .refl u]
  have hlines := ((s.passEvent_linesGoOn enc.axis).then_lines (hlock _)).trans (hpulse _)
  unfold State.settleAxis; dsimp only; split
  · exact hlines.then_lines (State.fenceNotice_lines _)
  · exact hlines

theorem State.settleAll_linesGoOn : s.LinesGoOn s.settleAll := by
  unfold State.settleAll
  extract_lets s1 s2 s3 s4 s5 s6 s7
  have hpasses : s.LinesGoOn s1 :=
    ((s.passEvent_linesGoOn .t).trans (State.passEvent_linesGoOn _ .e1)).trans (State.passEvent_linesGoOn _ .e2)
  have hqualify : s1.LinesGoOn s2 :=
    List.foldlRecOn _ _ (.refl s1) fun t ht n _ => ht.trans (t.qualificationComplete_linesGoOn n)
  have hlock : s3.lines = s2.lines := s2.eachDetector_lines State.lockoutEnd_lines
  have hends : s3.LinesGoOn s7 :=
    (((s3.eachLine_linesGoOn State.pulseEnd_linesGoOn).trans
      (s4.eachLine_linesGoOn State.maxOnExpiry_linesGoOn)).trans
        (s5.eachLine_linesGoOn State.recoveryEnd_linesGoOn)).trans
          (s6.eachLine_linesGoOn State.monitorSample_linesGoOn)
  exact (((hpasses.trans hqualify).then_lines hlock).trans hends).then_lines
    ((State.fenceTimeout_lines _).trans (State.fenceNotice_lines _))

theorem State.tick_linesGoOn (fb : Word) : s.LinesGoOn (s.tick fb) := by
  refine s.settleAll_linesGoOn.then_lines ?_
  unfold State.tick
  generalize s.settleAll = u
  rfl

theorem State.advance_linesGoOn (enc : Enc) : s.LinesGoOn (s.advance enc) :=
  (s.settleAxis_linesGoOn enc).then_lines (State.setEncAxis_lines _ enc _)

theorem State.keepEndsAhead_linesGoOn (enc : Enc) (p : Pos) : s.LinesGoOn (s.keepEndsAhead enc p) :=
  (State.LinesGoOn.of_lines (s.mapDets_lines _)).trans
    ((State.LinesGoOn.mapLines (Line.backward_goesOn enc p)).then_lines rfl)

theorem State.backwardChange_linesGoOn (enc : Enc) : s.LinesGoOn (s.backwardChange enc) := by
  rw [State.backwardChange_eq rfl]
  exact (((s.settleAxis_linesGoOn enc).then_lines (State.setEncAxis_lines _ enc _)).trans
    (State.keepEndsAhead_linesGoOn _ enc _)).then_lines
      ((State.engineNotice_lines _ _).trans (State.expire_lines _ enc.axis _))

theorem State.quadTransition_linesGoOn (enc : Enc) (ph : Phases) : s.LinesGoOn (s.quadTransition enc ph) := by
  have hset := fun a : EncAxis => State.LinesGoOn.of_lines (s.setEncAxis_lines enc a)
  rcases State.quadTransition_cases (s := s) (enc := enc) rfl ph with ⟨-, h⟩ | ⟨-, h⟩ | ⟨-, h⟩ <;> rw [h]
  · exact (hset _).then_lines rfl
  · exact (hset _).trans (State.advance_linesGoOn _ enc)
  · exact (hset _).trans (State.backwardChange_linesGoOn _ enc)

theorem State.engineReset_linesGoOn : s.LinesGoOn s.engineReset :=
  ⟨fun n => by rw [State.line_engineReset]; exact (s.line n).engineReset_goesOn s.t⟩

/-! ### All that a command makes of a line -/

/-- What a command other than HARDWARE_RESET makes of a line. -/
inductive Line.Change (l : Line) : Instr → Line → Prop
  | goesOn (c : Instr) {m : Line} (h : l.GoesOn m) : Change l c m
  | configured (disabled : l.state = .disabled) (cfg : LineConfig) (mon : MonitorConfig) :
    Change l .configLine { l with cfg := cfg, mon := mon, mismatch := if mon = l.mon then l.mismatch else 0 }
  | disarmed : Change l .disarm { l with state := .disabled, slot := none, sampleTime := none, mismatch := 0 }
  | cleared (faulted : l.state = .faulted) (t : Pos) :
    Change l .clearFault { l with state := .idle, mismatch := 0, sampleTime := Claims.sampleAfter l t }

/-- An action of LINE_CONTROL on a line (R109 to R112). -/
theorem Claims.lineAfter_change (s : State) (mask : Word) (a : LineAction) (l : Line) :
    l.Change (Packet.lineControl mask a).row (Claims.lineAfter s a l) := by
  cases a with
  | arm => exact .goesOn _ (Claims.lineAfter_arm_goesOn s l)
  | forceOff => exact .goesOn _ (Claims.lineAfter_forceOff_goesOn s l)
  | disarm =>
    cases h : l.state with
    | disabled => simp only [Claims.lineAfter, h]; exact .goesOn _ (.refl l)
    | idle | active | recovery | faulted => simp only [Claims.lineAfter, h]; exact .disarmed
  | clearFault =>
    cases h : l.state with
    | faulted => simp only [Claims.lineAfter, h]; exact .cleared h s.t
    | disabled | idle | active | recovery => simp only [Claims.lineAfter, h]; exact .goesOn _ (.refl l)

/-- A row of LINE_CONTROL, with its own name for the action on one line. -/
theorem State.forLines_change (mask : Word) (a : LineAction) {act : State → Fin 16 → State}
    (hact : act = State.actOnLine a) (len : Nat) (n : Fin 16) :
    (s.line n).Change (Packet.lineControl mask a).row (((s.forLines mask act).passPacket len).line n) := by
  subst hact
  rw [State.passPacket_line, State.forLines_eq_foldl, allLines,
    State.actOnEach_line a mask s (List.nodup_finRange 16)]
  split
  · exact Claims.lineAfter_change s mask a _
  · exact .goesOn _ (.refl _)

theorem State.configLine_change (k : Fin 16) (cfg : LineConfig) (mon : MonitorConfig) (n : Fin 16) :
    (s.line n).Change .configLine ((s.configLine k cfg mon).line n) := by
  by_cases hd : (s.line k).state = .disabled
  · rw [State.configLine_disabled hd, State.line_setLine]
    split
    · subst_vars; exact .configured hd cfg mon
    · exact .goesOn _ (.refl _)
  · rw [State.configLine_busy hd]
    exact .goesOn _ (.refl _)

/-- A packet whose owner lets every line go on. -/
theorem State.onPacket_linesGoOn (kind : PacketKind) {take : Nat → Packet → State}
    (h : ∀ len p, s.LinesGoOn (take len p)) : s.LinesGoOn (s.onPacket kind take) :=
  State.onPacket_induct (P := s.LinesGoOn) (.refl s) (.of_lines rfl) fun len p _ => h len p

/-- A packet whose owner makes one of these changes of line `n`. -/
theorem State.onPacket_lineChange {c : Instr} {n : Fin 16} (kind : PacketKind) {take : Nat → Packet → State}
    (h : ∀ len p, (s.line n).Change c ((take len p).line n)) :
    (s.line n).Change c ((s.onPacket kind take).line n) :=
  State.onPacket_induct (P := fun t => (s.line n).Change c (t.line n)) (.goesOn c (.refl _)) (.goesOn c (.refl _))
    fun len p _ => h len p

/-- The rows of the lines' packets make one of these changes of each line. -/
theorem exec_linePacket_change {c : Instr} {s t : State} (h : exec c s = .next t) (hc : c.isLinePacket = true)
    (n : Fin 16) : (s.line n).Change c (t.line n) := by
  cases c
  case configLine =>
    cases h
    exact s.onPacket_lineChange _ fun len p => by
      split
      exacts [s.configLine_change _ _ _ n, .goesOn _ (.refl _)]
  case arm =>
    cases h
    exact s.onPacket_lineChange _ fun len p => by
      split
      exacts [s.forLines_change _ .arm rfl len n, .goesOn _ (.refl _)]
  case disarm =>
    cases h
    exact s.onPacket_lineChange _ fun len p => by
      split
      exacts [s.forLines_change _ .disarm rfl len n, .goesOn _ (.refl _)]
  case clearFault =>
    cases h
    exact s.onPacket_lineChange _ fun len p => by
      split
      exacts [s.forLines_change _ .clearFault rfl len n, .goesOn _ (.refl _)]
  case forceOff =>
    cases h
    exact s.onPacket_lineChange _ fun len p => by
      split
      exacts [s.forLines_change _ .forceOff rfl len n, .goesOn _ (.refl _)]
  all_goals cases hc

/-- Every command but HARDWARE_RESET and the packets of the lines lets every line go on. -/
theorem exec_linesGoOn {c : Instr} {s t : State} (h : exec c s = .next t)
    (hc : ∀ p q di fb, c ≠ .hardwareReset p q di fb) (hl : c.isLinePacket = false) : s.LinesGoOn t := by
  have hpass := fun {u : State} (len : Nat) (hu : s.LinesGoOn u) => hu.then_lines (u.passPacket_lines len)
  cases c
  case hardwareReset p q di fb => exact absurd rfl (hc p q di fb)
  case configLine | arm | disarm | clearFault | forceOff => cases hl
  case tick fb =>
    obtain rfl : s.tick fb = t := Host.Outcome.next.inj h
    exact s.tick_linesGoOn fb
  all_goals cases h
  case quadTransition enc ph => exact s.quadTransition_linesGoOn enc ph
  case scheduleReleasePass ax => exact s.passEvent_linesGoOn ax
  case detectorEdge n level => exact s.detectorEdge_linesGoOn n level
  case qualificationComplete n => exact s.qualificationComplete_linesGoOn n
  case pulseEnd n => exact s.pulseEnd_linesGoOn n
  case maxOnExpiry n => exact s.maxOnExpiry_linesGoOn n
  case recoveryEnd n => exact s.recoveryEnd_linesGoOn n
  case monitorSample n => exact s.monitorSample_linesGoOn n
  case engineReset => exact s.engineReset_linesGoOn
  case registerWriteIgnored o w =>
    rcases s.busWrite_lines o w with k | k
    · exact .of_lines k
    · rw [k]; exact s.engineReset_linesGoOn
  case injectItem =>
    exact s.onPacket_linesGoOn _ fun len p => by
      split
      exacts [hpass len (s.injectItem_linesGoOn _ _ _), .refl s]
  case scheduleFire =>
    exact s.onPacket_linesGoOn _ fun len p => by
      split
      exacts [hpass len (s.scheduleFire_linesGoOn _), .refl s]
  case configAxis =>
    exact s.onPacket_linesGoOn _ fun len p => by
      split
      exacts [hpass len (.of_lines (s.configAxis_lines _ _)), .refl s]
  case presetAxis =>
    exact s.onPacket_linesGoOn _ fun len p => by
      split
      exacts [hpass len (.of_lines (s.presetAxis_lines _ _)), .refl s]
  case configDetector =>
    exact s.onPacket_linesGoOn _ fun len p => by
      split
      exacts [hpass len (.of_lines (s.configDetector_lines _ _)), .refl s]
  case enable =>
    exact s.onPacket_linesGoOn _ fun len p => by
      split
      exacts [hpass len (.of_lines (s.forDetectors_lines _ State.enableDetector_lines)), .refl s]
  case disable =>
    exact s.onPacket_linesGoOn _ fun len p => by
      split
      exacts [hpass len (.of_lines (s.forDetectors_lines _ fun t n => t.setDet_lines n _)), .refl s]
  case verdict =>
    exact s.onPacket_linesGoOn _ fun len p => by
      split
      exacts [hpass len (.of_lines (s.verdict_lines _ _ _)), .refl s]
  case cancelItem =>
    exact s.onPacket_linesGoOn _ fun len p => by
      split
      exacts [hpass len (.of_lines (s.cancelItem_lines _)), .refl s]
  case cancelTag =>
    exact s.onPacket_linesGoOn _ fun len p => by
      split
      exacts [hpass len (.of_lines (s.cancelTag_lines _)), .refl s]
  case writeRecipe =>
    exact s.onPacket_linesGoOn _ fun len p => by
      split
      exacts [hpass len (.of_lines (s.setStaging_lines _)), .refl s]
  case writeSteps =>
    exact s.onPacket_linesGoOn _ fun len p => by
      split
      exacts [hpass len (.of_lines (s.setStaging_lines _)), .refl s]
  case fence =>
    exact s.onPacket_linesGoOn _ fun len p => by
      split
      exacts [.of_lines (s.takeFence_lines _ len), .refl s]
  case mark => exact s.onPacket_linesGoOn _ fun len p => by split <;> exact .of_lines rfl
  case pad => exact s.onPacket_linesGoOn _ fun len _ => .of_lines rfl
  case copyBank => exact s.onPacket_linesGoOn _ fun len _ => hpass len (.of_lines (s.setStaging_lines _))
  case switchBank => exact s.onPacket_linesGoOn _ fun len _ => hpass len (.of_lines s.switchBank_lines)
  all_goals refine .of_lines ?_
  case lockoutEnd n => exact s.lockoutEnd_lines n
  case fenceNotice => exact s.fenceNotice_lines
  case fenceTimeout => exact s.fenceTimeout_lines
  case parserTakeHeader => exact s.takeHeader_lines
  case startParser => exact s.startParser_lines
  case stopParser => exact s.stopParser_lines
  case quiesce => exact s.quiesce_lines
  case ringData w => exact s.ringData_lines w
  case resync w => exact s.resync_lines w
  case irqStatusWrite w => exact s.irqStatusWrite_lines w
  case reportWatermarkWrite w => exact s.watermarkWrite_lines w
  case ringSpaceLevelWrite w => exact s.spaceLevelWrite_lines w
  case posSelectWrite w => exact s.posSelectWrite_lines w
  case lineSelectWrite w => exact s.lineSelectWrite_lines w
  case ringReset | resume | ringPublish | ringWithdraw | reportPop | irqEnableWrite | posLowRead => exact rfl

/-- Every command but HARDWARE_RESET makes one of these changes. -/
theorem exec_line_change {c : Instr} {s t : State} (h : exec c s = .next t)
    (hc : ∀ p q di fb, c ≠ .hardwareReset p q di fb) (n : Fin 16) : (s.line n).Change c (t.line n) := by
  cases hl : c.isLinePacket with
  | true => exact exec_linePacket_change h hl n
  | false => exact .goesOn c ((exec_linesGoOn h hc hl).line n)

/-! ### The lines stay sound (R106, R131) -/

/-- Every change of a line keeps its bounds: CONFIG_LINE and CLEAR_FAULT find a line that is not busy, so its slot is
empty, and a DISABLED one has a count of 0. -/
theorem Line.Change.sound {l m : Line} {c : Instr} (h : l.Change c m) (hs : l.Sound) : m.Sound := by
  cases h with
  | goesOn _ h => exact h.sound hs
  | configured hdis cfg mon =>
    have hslot := hs.slot_of_not_busy (by simp [Line.busy, hdis])
    obtain ⟨htime, hcount⟩ := hs.of_unwatched (l.watching_eq_false_iff.2 (.inr hdis))
    have hzero : (if mon = l.mon then l.mismatch else 0) = 0 := by rw [hcount, ite_self]
    refine ⟨fun hq => ?_, ?_, fun _ => ⟨htime, hzero⟩⟩
    · exact absurd hq (by simp [hslot])
    · exact hzero.trans_lt (Threshold.toNat_pos _)
  | disarmed => exact ⟨fun hq => (by cases hq), Threshold.toNat_pos _, fun _ => ⟨rfl, rfl⟩⟩
  | cleared hfaulted t =>
    have hslot := hs.slot_of_not_busy (by simp [Line.busy, hfaulted])
    refine ⟨fun hq => absurd hq (by simp [hslot]), Threshold.toNat_pos _, fun hw => ⟨?_, rfl⟩⟩
    obtain hoff | hdis := (Line.watching_eq_false_iff _).1 hw
    · have hoff : l.mon.enable = false := hoff
      exact (Claims.sampleAfter_off hoff t).trans (hs.of_off hoff).1
    · cases hdis

theorem exec_keeps_linesSound (c : Instr) (s t : State) (hs : s.LinesSound) (h : exec c s = .next t) :
    t.LinesSound := by
  by_cases hc : ∀ p q di fb, c ≠ .hardwareReset p q di fb
  · exact fun n => (exec_line_change h hc n).sound (hs n)
  · simp only [not_forall, not_not] at hc
    obtain ⟨p, q, di, fb, rfl⟩ := hc
    cases h
    exact fun n => by rw [State.line_hardwareReset]; exact Line.reset_sound

/-- Settles O14: every change that a command makes of a line keeps its bounds. -/
theorem stepKeepsLinesSound : Obligations.StepKeepsLinesSound :=
  step_keeps (fun _ _ hs => hs) exec_keeps_linesSound

/-- Settles O22: of the changes of a line, CONFIG_LINE alone writes its configuration, on a DISABLED line, and DISARM
and CLEAR_FAULT alone end FAULTED. -/
theorem linesKeepConfigurationAndFault : Obligations.LinesKeepConfigurationAndFault := by
  intro c s t n h hc
  have hchange := exec_line_change h hc n
  generalize s.line n = l, t.line n = m at hchange ⊢
  cases hchange with
  | goesOn _ k => exact ⟨fun _ => ⟨k.cfg, k.mon⟩, fun hf _ _ => k.faulted hf⟩
  | configured hdis cfg mon =>
    refine ⟨fun hor => ?_, fun hf _ _ => ?_⟩
    · exact absurd hor (by simp [hdis])
    · exact absurd (hdis.symm.trans hf) (by simp)
  | disarmed => exact ⟨fun _ => ⟨rfl, rfl⟩, fun _ _ hne => absurd rfl hne⟩
  | cleared => exact ⟨fun _ => ⟨rfl, rfl⟩, fun _ hne _ => absurd rfl hne⟩

end Sys2Proof.Machine
end

section
/-!
The sample of a monitor channel and the fault it raises: MONITOR_SAMPLE (R105, R131, R134 to R137).
-/
namespace Sys2Proof.Machine

variable {s : State} {n : Fin 16}

/-! ### Drive, watching and origin (R105, R131, R135) -/

theorem Line.drive_eq_true_iff (l : Line) : l.drive = true ↔ ∃ u, l.state = .active u := by
  unfold Line.drive
  cases l.state <;> simp

theorem Line.watching_eq_true_iff (l : Line) : l.watching = true ↔ l.mon.enable = true ∧ l.state ≠ .disabled := by
  rw [Line.watching, Bool.and_eq_true, decide_eq_true_iff]

theorem Line.pulseOrigin_of_active {l : Line} {u : Pulse} (h : l.state = .active u) :
    l.pulseOrigin = some u.origin := by
  simp only [Line.pulseOrigin, h]

theorem Line.pulseOrigin_of_drive_off {l : Line} (h : l.drive = false) : l.pulseOrigin = none := by
  unfold Line.pulseOrigin
  split
  · exact absurd (l.drive_eq_true_iff.2 ⟨_, ‹_›⟩) (by simp [h])
  · rfl

/-! ### The sample (R134, R137) -/

theorem State.line_setLine_self (s : State) (n : Fin 16) (l : Line) : (s.setLine n l).line n = l := by
  rw [State.line_setLine, if_pos rfl]

/-- A line written twice holds what was written last, whatever the queue took between. -/
theorem State.setLine_queue_setLine (s : State) (n : Fin 16) (l m : Line) (q : ReportQueue) :
    { s.setLine n l with queue := q }.setLine n m = { s with queue := q }.setLine n m := by
  simp only [State.setLine, Vector.set_set]

theorem State.setLine_setLine (s : State) (n : Fin 16) (l m : Line) :
    (s.setLine n l).setLine n m = s.setLine n m :=
  s.setLine_queue_setLine n l m s.queue

/-- The channel after a sample, and whether a disagreeing sample brought the count to K. -/
theorem Line.sampled_eq (l : Line) (t : Pos) (sense : Bool) :
    l.sampled t sense = (Claims.sampledLine l t sense,
      decide (sense ≠ l.drive) && decide (l.mon.threshold.toNat ≤ l.mismatch + 1)) := by
  unfold Line.sampled Claims.sampledLine Line.nextSample
  by_cases hagree : sense = l.drive
  · simp [hagree]
  · by_cases hk : l.mon.threshold.toNat ≤ l.mismatch + 1
    · simp [hagree, hk, Nat.not_lt.2 hk]
    · simp [hagree, hk, Nat.not_le.1 hk]

/-- The count at K raises a fault on every line but a FAULTED one (R135, R137). -/
theorem State.takeSample_eq (s : State) (n : Fin 16) :
    s.takeSample n =
      let sampled := s.setLine n (Claims.sampledLine (s.line n) s.t (s.sense n))
      if Claims.raisesFault (s.line n) (s.sense n) then sampled.raiseFault n (s.line n) else sampled := by
  unfold State.takeSample Claims.raisesFault
  simp only [Line.sampled_eq]
  cases decide (s.sense n ≠ (s.line n).drive) && decide ((s.line n).mon.threshold.toNat ≤ (s.line n).mismatch + 1)
  · rfl
  · by_cases hf : (s.line n).state = .faulted <;> simp [hf]

theorem State.monitorSample_due (hw : (s.line n).watching = true) (ht : (s.line n).sampleTime = some s.t) :
    s.monitorSample n = s.takeSample n :=
  if_pos ⟨hw, ht⟩

theorem State.monitorSample_not_due (h : (s.line n).watching = false ∨ (s.line n).sampleTime ≠ some s.t) :
    s.monitorSample n = s :=
  if_neg fun ⟨hw, ht⟩ => h.elim (fun hoff => absurd (hw.symm.trans hoff) (by simp)) (fun hne => hne ht)

/-! ### The shutdown of a line (R123, R136) -/

/-- From ACTIVE the shutdown is a drive change: it sets the sample time anew (R133). -/
theorem State.shutdown_active {l : Line} {u : Pulse} (hl : s.line n = l) (h : l.state = .active u) :
    s.shutdown n =
      { s with
        queue := Claims.offers s.queue (Claims.fireDone s n l u .fault ++ Claims.slotDropped n l .faulted) }.setLine n
        { l with state := .faulted, slot := none, sampleTime := Claims.sampleAfter l s.t } := by
  subst hl
  simp only [State.shutdown, h, State.offerFireDone_eq, State.offerSlotDrop_eq,
    Line.enterSampled_eq _ .faulted _ (by simp), offers_append]
  rfl

/-- With the drive off the shutdown keeps the sample time. -/
theorem State.shutdown_of_drive_off {l : Line} (hl : s.line n = l) (h : l.drive = false) :
    s.shutdown n =
      { s with queue := Claims.offers s.queue (Claims.slotDropped n l .faulted) }.setLine n
        { l with state := .faulted, slot := none } := by
  subst hl
  unfold State.shutdown
  split
  · exact absurd ((s.line n).drive_eq_true_iff.2 ⟨_, ‹_›⟩) (by simp [h])
  · rw [State.offerSlotDrop_eq]
    rfl

/-! ### The fault (R135, R136) -/

/-- REPORT offers LINE_FAULT and does not touch the line (R135). -/
theorem State.raiseFault_report {l : Line} (h : l.mon.action = .report) (m : Line) :
    (s.setLine n m).raiseFault n l =
      (s.setLine n { m with lastFault := faultKindOf l.drive }).offer
        (lineFaultReport n (faultKindOf l.drive) .report l.state l.pulseOrigin s.t) := by
  simp only [State.raiseFault, h, State.line_setLine_self, State.setLine_setLine, State.setLine_t]

/-- SHUTDOWN takes the line to FAULTED first and offers LINE_FAULT last (R136). -/
theorem State.raiseFault_shutdown {l : Line} (h : l.mon.action = .shutdown) (m : Line) :
    (s.setLine n m).raiseFault n l =
      ((s.setLine n { m with lastFault := faultKindOf l.drive }).shutdown n).offer
        (lineFaultReport n (faultKindOf l.drive) .shutdown l.state l.pulseOrigin s.t) := by
  simp only [State.raiseFault, h, State.line_setLine_self, State.setLine_setLine, State.setLine_t]

/-- The fault that a sample of an enabled channel raises: its records, and the line after it. -/
theorem State.raiseFault_sampled (s : State) (n : Fin 16) {l : Line} (he : l.mon.enable = true) (sense : Bool) :
    (s.setLine n (Claims.sampledLine l s.t sense)).raiseFault n l =
      { s with queue := Claims.offers s.queue (Claims.faultRecords s n l) }.setLine n
        (Claims.faultedLine l s.t sense) := by
  unfold Claims.faultRecords Claims.faultedLine
  cases ha : l.mon.action with
  | report =>
    rw [State.raiseFault_report ha]
    rfl
  | shutdown =>
    rw [State.raiseFault_shutdown ha]
    cases hst : l.state with
    | active u =>
      have hdrive : l.drive = true := l.drive_eq_true_iff.2 ⟨u, hst⟩
      rw [State.shutdown_active (u := u) (s.line_setLine_self n _), State.setLine_queue_setLine, hdrive]
      · simp only [offers_append, Claims.sampleAfter, Claims.sampledLine, he]
        rfl
      · exact hst
    | disabled | idle | recovery | faulted =>
      have hdrive : l.drive = false := by simp [Line.drive, hst]
      rw [State.shutdown_of_drive_off (s.line_setLine_self n _), State.setLine_queue_setLine, hdrive]
      · simp only [offers_append]
        rfl
      · exact hdrive

/-! ### MONITOR_SAMPLE -/

/-- Settles O60: a sample that is due is taken, and its fault goes by the action; one that is not due does nothing. -/
theorem monitorSamples : Obligations.MonitorSamples := by
  intro s n l sense
  refine ⟨fun hw ht hr => congrArg Host.Outcome.next ?sampled, fun hw ht hr => congrArg Host.Outcome.next ?fault,
    fun h => congrArg Host.Outcome.next (State.monitorSample_not_due h), rfl, l.drive_eq_true_iff,
    l.watching_eq_true_iff, fun u => Line.pulseOrigin_of_active, Line.pulseOrigin_of_drive_off⟩
  case sampled =>
    rw [State.monitorSample_due hw ht, State.takeSample_eq]
    exact if_neg (Bool.eq_false_iff.1 hr)
  case fault =>
    rw [State.monitorSample_due hw ht, State.takeSample_eq]
    exact (if_pos hr).trans (s.raiseFault_sampled n (l.watching_eq_true_iff.1 hw).1 sense)

end Sys2Proof.Machine
end

section
/-!
The records that the events of the part bring about: each of them offers records to the queue, one after another, and
touches the queue in no other way (R147, R150).
-/
namespace Sys2Proof.Machine

/-- The queue has taken some offers, one after another, and nothing else (R150). -/
structure State.OnlyOffers (s t : State) : Prop where
  offered : ∃ rs, t.queue = Claims.offers s.queue rs

theorem State.OnlyOffers.of_queue {s t : State} (h : t.queue = s.queue) : s.OnlyOffers t := ⟨[], h⟩

theorem State.OnlyOffers.refl (s : State) : s.OnlyOffers s := .of_queue rfl

theorem State.OnlyOffers.trans {s t u : State} (h : s.OnlyOffers t) (k : t.OnlyOffers u) : s.OnlyOffers u := by
  obtain ⟨rs, h⟩ := h
  obtain ⟨rs', k⟩ := k
  exact ⟨rs ++ rs', by rw [k, h, offers_append]⟩

theorem State.OnlyOffers.then_queue {s t u : State} (h : s.OnlyOffers t) (k : u.queue = t.queue) : s.OnlyOffers u :=
  h.trans (.of_queue k)

variable (s : State)

theorem State.offer_onlyOffers (r : Report) : s.OnlyOffers (s.offer r) := ⟨[r], rfl⟩

theorem State.halt_onlyOffers (code : HaltCode) : s.OnlyOffers (s.halt code) := ⟨[_], rfl⟩

/-- One event after another, each of which only offers. -/
theorem State.foldl_onlyOffers {α : Type} {f : State → α → State} (h : ∀ (t : State) a, t.OnlyOffers (f t a))
    (l : List α) : s.OnlyOffers (l.foldl f s) :=
  List.foldlRecOn _ _ (.refl s) fun t ht a _ => ht.trans (h t a)

/-- A packet whose owner only offers. -/
theorem State.onPacket_onlyOffers (kind : PacketKind) {take : Nat → Packet → State}
    (h : ∀ len p, s.OnlyOffers (take len p)) : s.OnlyOffers (s.onPacket kind take) :=
  State.onPacket_induct (P := s.OnlyOffers) (.refl s) (s.halt_onlyOffers _) fun len p _ => h len p

/-! ### The events of the Schedule and of the Item Table (R24, R31, R38, R54, R58, R68) -/

theorem State.request_onlyOffers (n : Fin 16) (q : FiringRequest) : s.OnlyOffers (s.request n q).1 := by
  rw [State.request_eq]
  exact ⟨_, rfl⟩

theorem State.tally_queue (h : Handle) (a : Answer) : (s.tally h a).queue = s.queue := by
  unfold State.tally; split <;> rfl

theorem State.markLate_queue (h : Handle) : (s.markLate h).queue = s.queue := by
  unfold State.markLate; split <;> rfl

theorem State.tellLate_queue (ax : Axis) (e : Entry) : (s.tellLate ax e).queue = s.queue := by
  unfold State.tellLate; repeat' split
  exacts [rfl, s.markLate_queue _, rfl]

theorem State.applyDefault_onlyOffers (h : Handle) (i : Fin 128) (ax : Axis) (p : Pos) :
    s.OnlyOffers (s.applyDefault h i ax p) := by
  unfold State.applyDefault; repeat' split
  exacts [⟨[_], rfl⟩, .refl s, .refl s]

theorem State.engineNotice_onlyOffers (before : State) : s.OnlyOffers (s.engineNotice before) := by
  rcases s.engineNotice_cases before with h | ⟨-, -, h⟩ <;> rw [h]
  exacts [.refl s, ⟨[_], rfl⟩]

theorem State.actOn_onlyOffers (ax : Axis) (e : Entry) : s.OnlyOffers (s.actOn ax e) := by
  have hask : ∀ (t : State) n q h, t.OnlyOffers ((t.request n q).1.tally h (t.request n q).2) := fun t n q h =>
    (t.request_onlyOffers n q).then_queue (State.tally_queue _ h _)
  unfold State.actOn; dsimp only; split
  · exact s.applyDefault_onlyOffers _ _ _ _
  · exact .refl s
  · exact s.request_onlyOffers _ _
  · split
    · split
      exacts [hask s _ _ _, .refl s]
    · split
      exacts [(s.applyDefault_onlyOffers _ _ _ _).trans (hask _ _ _ _), s.applyDefault_onlyOffers _ _ _ _]

theorem State.freeEntry_onlyOffers (e : Entry) : s.OnlyOffers (s.freeEntry e) := by
  unfold State.freeEntry; dsimp only; split
  · exact ⟨_, State.lowerPending_queue _ _⟩
  · exact .of_queue rfl

theorem State.release_onlyOffers (ax : Axis) (e : Entry) : s.OnlyOffers (s.release ax e) := by
  have hacted := (s.actOn_onlyOffers ax e).then_queue (State.tellLate_queue _ ax e)
  unfold State.release; dsimp only; split
  · exact hacted.trans (State.freeEntry_onlyOffers _ e)
  · exact hacted.then_queue (State.insert_queue _ ax _)

theorem State.releasePass_onlyOffers (ax : Axis) : s.OnlyOffers (s.releasePass ax) :=
  State.passLoop_induct State.OnlyOffers State.OnlyOffers.refl
    (fun _ t _ rest h _ _ => (h.then_queue (t.setList_queue ax rest)).trans (State.release_onlyOffers _ ax _)) _ s

theorem State.passEvent_onlyOffers (ax : Axis) : s.OnlyOffers (s.passEvent ax) :=
  (s.releasePass_onlyOffers ax).trans (State.engineNotice_onlyOffers _ s)

theorem State.insertEntries_queue (ax : Axis) (es : List Entry) :
    (es.foldl (fun s e => s.insert ax e) s).queue = s.queue :=
  List.foldlRecOn (motive := fun t : State => t.queue = s.queue) _ _ rfl fun t ht e _ =>
    (t.insert_queue ax e).trans ht

theorem State.removeEntries_queue (p : Entry → Bool) : (s.removeEntries p).queue = s.queue :=
  List.foldlRecOn (motive := fun t : State => t.queue = s.queue) _ _ rfl fun _ ht _ _ => ht

theorem State.admitItem_onlyOffers (q : AdmissionRequest) : s.OnlyOffers (s.admitItem q) := by
  unfold State.admitItem State.admitTo; dsimp only; split
  · refine .trans (.of_queue ?_) (State.releasePass_onlyOffers _ _)
    exact State.insertEntries_queue _ _ _
  · exact .refl s

theorem State.injectItem_onlyOffers (r : Fin 16) (backdate tag : Word) :
    s.OnlyOffers (s.injectItem r backdate tag) := by
  unfold State.injectItem; split
  exacts [s.offer_onlyOffers _, s.admitItem_onlyOffers _]

theorem State.scheduleFire_onlyOffers (f : FireFields) : s.OnlyOffers (s.scheduleFire f) := by
  unfold State.scheduleFire; split
  · exact s.offer_onlyOffers _
  · unfold State.fireNow; split
    · exact .refl s
    · refine .trans (.of_queue ?_) (State.releasePass_onlyOffers _ _)
      exact State.insert_queue _ _ _

theorem State.verdict_onlyOffers (h : Handle) (v : Verdict) (tag : Word) : s.OnlyOffers (s.verdict h v tag) := by
  unfold State.verdict; repeat' split
  exacts [s.offer_onlyOffers _, .of_queue rfl, s.offer_onlyOffers _, s.offer_onlyOffers _]

theorem State.cancelItem_onlyOffers (h : Handle) : s.OnlyOffers (s.cancelItem h) := by
  unfold State.cancelItem; split
  · exact s.offer_onlyOffers _
  · exact (((State.OnlyOffers.of_queue (s.removeEntries_queue _)).trans (State.offer_onlyOffers _ _)).then_queue
      (State.setItem_queue _ _ _)).trans (State.engineNotice_onlyOffers _ s)

theorem State.cancelTag_onlyOffers (tag : Word) : s.OnlyOffers (s.cancelTag tag) :=
  (State.OnlyOffers.of_queue (s.removeEntries_queue _)).trans (State.engineNotice_onlyOffers _ s)

/-! ### Detectors (R92 to R101) -/

theorem State.detect_onlyOffers (n : Fin 8) (c : Capture) : s.OnlyOffers (s.detect n c) := by
  unfold State.detect State.detectionEvent; dsimp only; split
  · exact (s.offer_onlyOffers _).then_queue rfl
  · exact (s.admitItem_onlyOffers _).then_queue rfl

theorem State.qualificationComplete_onlyOffers (n : Fin 8) : s.OnlyOffers (s.qualificationComplete n) := by
  unfold State.qualificationComplete; dsimp only; repeat' split
  exacts [s.detect_onlyOffers n _, .refl s, .refl s]

theorem State.startQualifying_onlyOffers (n : Fin 8) : s.OnlyOffers (s.startQualifying n) := by
  unfold State.startQualifying; dsimp only; split
  · exact (State.OnlyOffers.of_queue (s.setDet_queue n _)).trans (State.detect_onlyOffers _ n _)
  · exact .of_queue rfl

theorem State.detectorEdge_onlyOffers (n : Fin 8) (level : Bool) : s.OnlyOffers (s.detectorEdge n level) := by
  unfold State.detectorEdge; dsimp only; repeat' split
  case h_3.isTrue =>
    exact (State.OnlyOffers.of_queue (s.setDet_queue n _)).trans (State.startQualifying_onlyOffers _ n)
  all_goals exact .of_queue rfl

theorem State.lockoutEnd_queue (n : Fin 8) : (s.lockoutEnd n).queue = s.queue := by
  unfold State.lockoutEnd; dsimp only; split <;> rfl

theorem State.configDetector_onlyOffers (n : Fin 8) (cfg : DetectorConfig) :
    s.OnlyOffers (s.configDetector n cfg) := by
  unfold State.configDetector; dsimp only; split
  exacts [.of_queue rfl, s.offer_onlyOffers _]

theorem State.enableDetector_queue (n : Fin 8) : (s.enableDetector n).queue = s.queue := by
  unfold State.enableDetector; dsimp only; split <;> rfl

theorem State.forDetectors_onlyOffers (mask : ByteField) {act : State → Fin 8 → State}
    (h : ∀ (t : State) n, (act t n).queue = t.queue) : s.OnlyOffers (s.forDetectors mask act) :=
  s.foldl_onlyOffers (fun t n => by
    split
    exacts [.of_queue (h t n), .refl t]) allDetectors

/-! ### Lines and their monitor (R107 to R112, R118 to R123, R134) -/

theorem State.offerFireDone_onlyOffers (n : Fin 16) (u : Pulse) (r : EndReason) :
    s.OnlyOffers (s.offerFireDone n u r) := by
  rw [State.offerFireDone_eq]
  exact ⟨_, rfl⟩

theorem State.offerSlotDrop_onlyOffers (n : Fin 16) (r : DropReason) : s.OnlyOffers (s.offerSlotDrop n r) := by
  rw [State.offerSlotDrop_eq]
  exact ⟨_, rfl⟩

theorem State.endPulse_onlyOffers (n : Fin 16) (u : Pulse) (r : EndReason) : s.OnlyOffers (s.endPulse n u r) := by
  rw [State.endPulse_eq]
  exact ⟨_, rfl⟩

theorem State.pulseEnd_onlyOffers (n : Fin 16) : s.OnlyOffers (s.pulseEnd n) := by
  unfold State.pulseEnd; repeat' split
  exacts [s.endPulse_onlyOffers n _ _, .refl s, .refl s]

theorem State.maxOnExpiry_onlyOffers (n : Fin 16) : s.OnlyOffers (s.maxOnExpiry n) := by
  unfold State.maxOnExpiry; repeat' split
  · exact s.endPulse_onlyOffers n _ _
  · exact (s.offer_onlyOffers _).trans (State.endPulse_onlyOffers _ n _ _)
  · exact .refl s
  · exact .refl s

theorem State.recoveryEnd_queue (n : Fin 16) : (s.recoveryEnd n).queue = s.queue := by
  unfold State.recoveryEnd; dsimp only; repeat' split
  all_goals rfl

theorem State.shutdown_onlyOffers (n : Fin 16) : s.OnlyOffers (s.shutdown n) := by
  unfold State.shutdown; split
  · exact ((s.offerFireDone_onlyOffers n _ _).trans (State.offerSlotDrop_onlyOffers _ n _)).then_queue rfl
  · exact (s.offerSlotDrop_onlyOffers n _).then_queue rfl

theorem State.raiseFault_onlyOffers (n : Fin 16) (before : Line) : s.OnlyOffers (s.raiseFault n before) := by
  unfold State.raiseFault; dsimp only
  refine .trans ?_ (State.offer_onlyOffers _ _)
  split
  · exact .of_queue rfl
  · exact (State.OnlyOffers.of_queue (s.setLine_queue n _)).trans (State.shutdown_onlyOffers _ n)

theorem State.monitorSample_onlyOffers (n : Fin 16) : s.OnlyOffers (s.monitorSample n) := by
  unfold State.monitorSample State.takeSample; dsimp only; repeat' split
  · exact .of_queue rfl
  · exact .of_queue rfl
  · exact (State.OnlyOffers.of_queue (s.setLine_queue n _)).trans (State.raiseFault_onlyOffers _ n _)
  · exact .refl s

theorem State.actOnLine_onlyOffers (a : LineAction) (n : Fin 16) : s.OnlyOffers (s.actOnLine a n) := by
  rw [State.actOnLine_eq]
  exact ⟨_, rfl⟩

theorem State.forLines_onlyOffers (mask : Word) (a : LineAction) {act : State → Fin 16 → State}
    (hact : act = State.actOnLine a) : s.OnlyOffers (s.forLines mask act) := by
  subst hact
  exact s.foldl_onlyOffers (fun t n => by
    split
    exacts [t.actOnLine_onlyOffers a n, .refl t]) allLines

theorem State.configLine_onlyOffers (n : Fin 16) (cfg : LineConfig) (mon : MonitorConfig) :
    s.OnlyOffers (s.configLine n cfg mon) := by
  unfold State.configLine; dsimp only; split
  exacts [.of_queue rfl, s.offer_onlyOffers _]

/-! ### The parser, the Recipe Store and Engine Control (R83, R171, R182, R199) -/

theorem State.fenceNotice_queue : s.fenceNotice.queue = s.queue := by
  unfold State.fenceNotice; repeat' split
  all_goals rfl

theorem State.fenceTimeout_onlyOffers : s.OnlyOffers s.fenceTimeout := by
  unfold State.fenceTimeout; repeat' split
  · exact .of_queue rfl
  · exact (s.offer_onlyOffers _).then_queue rfl
  · exact .refl s
  · exact .refl s

theorem State.takeFence_queue (f : FenceFields) (len : Nat) : (s.takeFence f len).queue = s.queue := by
  unfold State.takeFence; split <;> rfl

theorem State.takeHeader_onlyOffers : s.OnlyOffers s.takeHeader := by
  unfold State.takeHeader; dsimp only; repeat' split
  · exact .of_queue rfl
  · exact s.halt_onlyOffers _
  · exact .refl s
  · exact .refl s

theorem State.startParser_queue : s.startParser.queue = s.queue := by
  unfold State.startParser; split <;> rfl

theorem State.stopParser_queue : s.stopParser.queue = s.queue := by
  unfold State.stopParser; split <;> rfl

theorem State.setStaging_queue (b : Bank) : (s.setStaging b).queue = s.queue := s.setBank_queue _ b

theorem State.switchBank_onlyOffers : s.OnlyOffers s.switchBank := by
  unfold State.switchBank; split
  exacts [s.offer_onlyOffers _, ⟨[_], rfl⟩]

theorem State.quiesce_onlyOffers : s.OnlyOffers s.quiesce := by
  unfold State.quiesce; repeat' split
  exacts [⟨[_], rfl⟩, .of_queue rfl, .refl s, .refl s]

/-! ### The registers (R157, R159, R164, R168, R191, R194) -/

theorem State.ringData_queue (w : Word) : (s.ringData w).queue = s.queue := by
  unfold State.ringData; split <;> rfl

theorem State.resync_queue (w : Word) : (s.resync w).queue = s.queue := by
  unfold State.resync; split <;> rfl

theorem State.irqStatusWrite_queue (w : Word) : (s.irqStatusWrite w).queue = s.queue := by
  unfold State.irqStatusWrite; split <;> rfl

theorem State.watermarkWrite_queue (w : Word) : (s.watermarkWrite w).queue = s.queue := by
  unfold State.watermarkWrite; split <;> rfl

theorem State.spaceLevelWrite_queue (w : Word) : (s.spaceLevelWrite w).queue = s.queue := by
  unfold State.spaceLevelWrite; split <;> rfl

theorem State.posSelectWrite_queue (w : Word) : (s.posSelectWrite w).queue = s.queue := by
  unfold State.posSelectWrite; split <;> rfl

theorem State.lineSelectWrite_queue (w : Word) : (s.lineSelectWrite w).queue = s.queue := by
  unfold State.lineSelectWrite; split <;> rfl

/-! ### The axes and the tick (R3, R6, R9, R14, R15) -/

theorem State.settleAxis_onlyOffers (enc : Enc) : s.OnlyOffers (s.settleAxis enc) := by
  have hlock : ∀ t : State, t.OnlyOffers (t.eachDetector (State.lockoutEndOn enc.axis)) := fun t =>
    t.foldl_onlyOffers (fun u n => by
      unfold State.lockoutEndOn; split
      exacts [.of_queue (u.lockoutEnd_queue n), .refl u]) allDetectors
  have hpulse : ∀ t : State, t.OnlyOffers (t.eachLine (State.pulseEndOn enc)) := fun t =>
    t.foldl_onlyOffers (fun u n => by
      unfold State.pulseEndOn; repeat' split
      exacts [u.pulseEnd_onlyOffers n, .refl u, .refl u]) allLines
  have hends := ((s.passEvent_onlyOffers enc.axis).trans (hlock _)).trans (hpulse _)
  unfold State.settleAxis; dsimp only; split
  · exact hends.then_queue (State.fenceNotice_queue _)
  · exact hends

theorem State.settleAll_onlyOffers : s.OnlyOffers s.settleAll := by
  unfold State.settleAll
  extract_lets s1 s2 s3 s4 s5 s6 s7
  have hpasses : s.OnlyOffers s1 :=
    ((s.passEvent_onlyOffers .t).trans (State.passEvent_onlyOffers _ .e1)).trans (State.passEvent_onlyOffers _ .e2)
  have hdets : s1.OnlyOffers s3 :=
    (s1.foldl_onlyOffers State.qualificationComplete_onlyOffers allDetectors).trans
      (s2.foldl_onlyOffers (fun t n => .of_queue (t.lockoutEnd_queue n)) allDetectors)
  have hlines : s3.OnlyOffers s7 :=
    (((s3.foldl_onlyOffers State.pulseEnd_onlyOffers allLines).trans
      (s4.foldl_onlyOffers State.maxOnExpiry_onlyOffers allLines)).trans
        (s5.foldl_onlyOffers (fun t n => .of_queue (t.recoveryEnd_queue n)) allLines)).trans
          (s6.foldl_onlyOffers State.monitorSample_onlyOffers allLines)
  exact (((hpasses.trans hdets).trans hlines).then_queue (State.fenceNotice_queue _)).trans
    (State.fenceTimeout_onlyOffers _)

theorem State.tick_onlyOffers (fb : Word) : s.OnlyOffers (s.tick fb) := by
  refine s.settleAll_onlyOffers.then_queue ?_
  unfold State.tick
  generalize s.settleAll = u
  rfl

theorem State.advance_onlyOffers (enc : Enc) : s.OnlyOffers (s.advance enc) :=
  (s.settleAxis_onlyOffers enc).then_queue (State.setEncAxis_queue _ enc _)

theorem State.backwardChange_onlyOffers (enc : Enc) : s.OnlyOffers (s.backwardChange enc) := by
  rw [State.backwardChange_eq rfl]
  have hmoved := (s.settleAxis_onlyOffers enc).then_queue
    (State.setEncAxis_queue _ enc { s.encAxis enc with pos := (s.encAxis enc).pos - 1 })
  have hahead : ∀ (u : State) p, (u.keepEndsAhead enc p).queue = u.queue := fun _ _ => rfl
  exact ((hmoved.then_queue (hahead _ _)).trans ⟨_, State.expire_queue _ enc.axis _⟩).trans
    (State.engineNotice_onlyOffers _ _)

theorem State.quadTransition_onlyOffers (enc : Enc) (ph : Phases) : s.OnlyOffers (s.quadTransition enc ph) := by
  have hset := fun a : EncAxis => State.OnlyOffers.of_queue (s.setEncAxis_queue enc a)
  rcases State.quadTransition_cases (s := s) (enc := enc) rfl ph with ⟨-, h⟩ | ⟨-, h⟩ | ⟨-, h⟩ <;> rw [h]
  · exact (hset _).trans ⟨_, rfl⟩
  · exact (hset _).trans (State.advance_onlyOffers _ enc)
  · exact (hset _).trans (State.backwardChange_onlyOffers _ enc)

theorem State.configAxis_onlyOffers (enc : Enc) (c : AxisSettings) : s.OnlyOffers (s.configAxis enc c) := by
  unfold State.configAxis; dsimp only; repeat' split
  exacts [.refl s, .of_queue (s.setEncAxis_queue enc _), s.offer_onlyOffers _]

theorem State.presetAxis_onlyOffers (enc : Enc) (p : Pos) : s.OnlyOffers (s.presetAxis enc p) := by
  unfold State.presetAxis; dsimp only; split
  exacts [s.offer_onlyOffers _, .of_queue (s.setEncAxis_queue enc _)]

end Sys2Proof.Machine
end

section
/-!
The report queue and the two levels under every command: what a command makes of the queue, and with it the bounds of
R148, R149 and R159 and the stay of the records (R147).
-/
namespace Sys2Proof

/-- The commands that can take records out of the queue: the resets, REPORT_POP, and a window write that the window
does not ignore (R153, R160). -/
def Instr.takesRecords : Instr → Bool
  | .hardwareReset _ _ _ _ | .engineReset | .reportPop _ => true
  | .registerWriteIgnored offset w => !writeIgnored offset w
  | _ => false

/-- No ignored write is a command of CMD. -/
theorem commandOf_ignored {offset : BitVec 5} {w : Word} (ho : offset.toNat = 0)
    (h : writeIgnored offset w = true) : Machine.commandOf w = none := by
  have hw : w.toNat = 0 ∨ 6 < w.toNat := by simpa [writeIgnored, readOnlyOffset, ho] using h
  unfold Machine.commandOf
  split
  case h_7 => rfl
  all_goals omega

end Sys2Proof

namespace Sys2Proof.Machine

/-! ### All that a command makes of the queue -/

/-- What a command makes of the report queue: it takes offers, or it loses its head or all of its records. -/
inductive State.QueueChange (s : State) : Instr → State → Prop
  | offered {c : Instr} {t : State} (h : s.OnlyOffers t) : QueueChange s c t
  | popped {c : Instr} {t : State} (hc : c.takesRecords = true) (h : t.queue = s.queue.pop) : QueueChange s c t
  | emptied {c : Instr} {t : State} (hc : c.takesRecords = true) (h : t.queue = ReportQueue.reset) :
    QueueChange s c t

variable {s t : State}

theorem State.QueueChange.of_queue {c : Instr} (h : t.queue = s.queue) : s.QueueChange c t := .offered (.of_queue h)

/-- A write to the register window, decoded by its offset (R189, R197). -/
theorem State.busWrite_queueChange (s : State) (offset : BitVec 5) (w : Word) :
    s.QueueChange (.registerWriteIgnored offset w) (s.busWrite offset w) := by
  unfold State.busWrite; split
  case h_1 ho =>
    split
    · rename_i c hcmd
      cases c with
      | startParser => exact .of_queue s.startParser_queue
      | stopParser => exact .of_queue s.stopParser_queue
      | ringReset => exact .of_queue rfl
      | quiesce => exact .offered s.quiesce_onlyOffers
      | resume => exact .of_queue rfl
      | engineReset =>
        refine .emptied ?_ rfl
        cases hi : writeIgnored offset w with
        | false => simp [Instr.takesRecords, hi]
        | true => rw [commandOf_ignored ho hi] at hcmd; cases hcmd
    · exact .of_queue rfl
  case h_10 ho => exact .popped (by simp [Instr.takesRecords, writeIgnored, readOnlyOffset, ho]) rfl
  all_goals refine .of_queue ?_
  · exact s.ringData_queue w
  · rfl
  · rfl
  · exact s.resync_queue w
  · exact s.spaceLevelWrite_queue w
  · exact s.irqStatusWrite_queue w
  · rfl
  · exact s.watermarkWrite_queue w
  · exact s.posSelectWrite_queue w
  · exact s.lineSelectWrite_queue w
  · rfl

/-- The rows of the parser's packets only offer. -/
theorem State.onPacket_queueChange {c : Instr} (s : State) (kind : PacketKind) {take : Nat → Packet → State}
    (h : ∀ len p, s.OnlyOffers (take len p)) : s.QueueChange c (s.onPacket kind take) :=
  .offered (s.onPacket_onlyOffers kind h)

/-- Every command makes one of these changes. -/
theorem exec_queueChange {c : Instr} (h : exec c s = .next t) : s.QueueChange c t := by
  have hpass := fun {u : State} (len : Nat) (hu : s.OnlyOffers u) => hu.then_queue (u.passPacket_queue len)
  cases c
  case tick fb =>
    obtain rfl : s.tick fb = t := Host.Outcome.next.inj h
    exact .offered (s.tick_onlyOffers fb)
  all_goals cases h
  case hardwareReset p q di fb => exact .emptied rfl rfl
  case engineReset => exact .emptied rfl rfl
  case reportPop w => exact .popped rfl rfl
  case registerWriteIgnored o w => exact s.busWrite_queueChange o w
  case pad => exact s.onPacket_queueChange _ fun len _ => hpass len (.refl s)
  case mark =>
    exact s.onPacket_queueChange _ fun len p => by
      split
      exacts [hpass len (s.offer_onlyOffers _), .refl s]
  case fence =>
    exact s.onPacket_queueChange _ fun len p => by
      split
      exacts [.of_queue (s.takeFence_queue _ len), .refl s]
  case configAxis =>
    exact s.onPacket_queueChange _ fun len p => by
      split
      exacts [hpass len (s.configAxis_onlyOffers _ _), .refl s]
  case presetAxis =>
    exact s.onPacket_queueChange _ fun len p => by
      split
      exacts [hpass len (s.presetAxis_onlyOffers _ _), .refl s]
  case configDetector =>
    exact s.onPacket_queueChange _ fun len p => by
      split
      exacts [hpass len (s.configDetector_onlyOffers _ _), .refl s]
  case enable =>
    exact s.onPacket_queueChange _ fun len p => by
      split
      exacts [hpass len (s.forDetectors_onlyOffers _ State.enableDetector_queue), .refl s]
  case disable =>
    exact s.onPacket_queueChange _ fun len p => by
      split
      exacts [hpass len (s.forDetectors_onlyOffers _ fun t n => t.setDet_queue n _), .refl s]
  case configLine =>
    exact s.onPacket_queueChange _ fun len p => by
      split
      exacts [hpass len (s.configLine_onlyOffers _ _ _), .refl s]
  case arm =>
    exact s.onPacket_queueChange _ fun len p => by
      split
      exacts [hpass len (s.forLines_onlyOffers _ .arm rfl), .refl s]
  case disarm =>
    exact s.onPacket_queueChange _ fun len p => by
      split
      exacts [hpass len (s.forLines_onlyOffers _ .disarm rfl), .refl s]
  case clearFault =>
    exact s.onPacket_queueChange _ fun len p => by
      split
      exacts [hpass len (s.forLines_onlyOffers _ .clearFault rfl), .refl s]
  case forceOff =>
    exact s.onPacket_queueChange _ fun len p => by
      split
      exacts [hpass len (s.forLines_onlyOffers _ .forceOff rfl), .refl s]
  case writeRecipe =>
    exact s.onPacket_queueChange _ fun len p => by
      split
      exacts [hpass len (.of_queue (s.setStaging_queue _)), .refl s]
  case writeSteps =>
    exact s.onPacket_queueChange _ fun len p => by
      split
      exacts [hpass len (.of_queue (s.setStaging_queue _)), .refl s]
  case copyBank => exact s.onPacket_queueChange _ fun len _ => hpass len (.of_queue (s.setStaging_queue _))
  case switchBank => exact s.onPacket_queueChange _ fun len _ => hpass len s.switchBank_onlyOffers
  case injectItem =>
    exact s.onPacket_queueChange _ fun len p => by
      split
      exacts [hpass len (s.injectItem_onlyOffers _ _ _), .refl s]
  case verdict =>
    exact s.onPacket_queueChange _ fun len p => by
      split
      exacts [hpass len (s.verdict_onlyOffers _ _ _), .refl s]
  case cancelItem =>
    exact s.onPacket_queueChange _ fun len p => by
      split
      exacts [hpass len (s.cancelItem_onlyOffers _), .refl s]
  case scheduleFire =>
    exact s.onPacket_queueChange _ fun len p => by
      split
      exacts [hpass len (s.scheduleFire_onlyOffers _), .refl s]
  case cancelTag =>
    exact s.onPacket_queueChange _ fun len p => by
      split
      exacts [hpass len (s.cancelTag_onlyOffers _), .refl s]
  all_goals refine .offered ?_
  case quadTransition enc ph => exact s.quadTransition_onlyOffers enc ph
  case scheduleReleasePass ax => exact s.passEvent_onlyOffers ax
  case detectorEdge n level => exact s.detectorEdge_onlyOffers n level
  case qualificationComplete n => exact s.qualificationComplete_onlyOffers n
  case pulseEnd n => exact s.pulseEnd_onlyOffers n
  case maxOnExpiry n => exact s.maxOnExpiry_onlyOffers n
  case monitorSample n => exact s.monitorSample_onlyOffers n
  case fenceTimeout => exact s.fenceTimeout_onlyOffers
  case parserTakeHeader => exact s.takeHeader_onlyOffers
  case quiesce => exact s.quiesce_onlyOffers
  all_goals refine .of_queue ?_
  case lockoutEnd n => exact s.lockoutEnd_queue n
  case recoveryEnd n => exact s.recoveryEnd_queue n
  case fenceNotice => exact s.fenceNotice_queue
  case startParser => exact s.startParser_queue
  case stopParser => exact s.stopParser_queue
  case ringData w => exact s.ringData_queue w
  case resync w => exact s.resync_queue w
  case irqStatusWrite w => exact s.irqStatusWrite_queue w
  case reportWatermarkWrite w => exact s.watermarkWrite_queue w
  case ringSpaceLevelWrite w => exact s.spaceLevelWrite_queue w
  case posSelectWrite w => exact s.posSelectWrite_queue w
  case lineSelectWrite w => exact s.lineSelectWrite_queue w
  case ringReset | resume | ringPublish | ringWithdraw | irqEnableWrite | posLowRead => rfl

/-! ### The bounds of the queue (R147, R148, R149) -/

/-- The sequences of `n` records held, when the counter stands at `c`: consecutive, the last just below it (R148). -/
def sequencesBelow (c : ByteField) (n : Nat) : List ByteField := (List.range n).map fun i => c - BitVec.ofNat 8 (n - i)

/-- One more record takes the counter's value as its sequence. -/
theorem sequencesBelow_succ (c : ByteField) (n : Nat) :
    sequencesBelow (c + 1) (n + 1) = sequencesBelow c n ++ [c] := by
  unfold sequencesBelow
  rw [List.range_succ, List.map_append]
  congr 1
  · refine List.map_congr_left fun i hi => ?_
    have hn : n + 1 - i = (n - i) + 1 := by have := List.mem_range.1 hi; omega
    rw [hn, BitVec.ofNat_add]
    exact add_sub_add_right_eq_sub c _ 1
  · rw [List.map_singleton, Nat.add_sub_cancel_left]
    exact congrArg (fun x => [x]) (add_sub_cancel_right c 1)

/-- The head record has the oldest sequence. -/
theorem sequencesBelow_tail (c : ByteField) (n : Nat) : (sequencesBelow c n).tail = sequencesBelow c (n - 1) := by
  cases n with
  | zero => rfl
  | succ n =>
    unfold sequencesBelow
    rw [List.range_succ_eq_map, List.map_cons, List.tail_cons, List.map_map]
    refine List.map_congr_left fun i _ => ?_
    simp only [Function.comp, Nat.succ_eq_add_one, Nat.add_sub_add_right, Nat.add_sub_cancel]

theorem ReportQueue.routineCount_le (q : ReportQueue) : q.routineCount ≤ q.records.length := List.countP_le_length

theorem ReportQueue.reset_sound : ReportQueue.reset.Sound := by decide

/-- An admitted record keeps the bounds: there was room for its class (R148). -/
theorem ReportQueue.Sound.admitted {q : ReportQueue} (h : q.Sound) {r : Report}
    (hroom : q.records.length < r.kind.cls.limit) :
    ReportQueue.Sound { records := q.records ++ [{ report := r, seq := q.seq, lost := 0 }], seq := q.seq + 1 } := by
  obtain ⟨-, hroutine, hseq, hlost⟩ := h
  have hlimit : r.kind.cls.limit ≤ 64 := by cases r.kind.cls <;> decide
  refine ⟨?_, ?_, ?_, ?_⟩
  · simp only [List.length_append, List.length_singleton, Config.queueCapacity]
    omega
  · have hle := q.routineCount_le
    unfold ReportQueue.routineCount at hroutine hle ⊢
    rw [List.countP_append, List.countP_singleton]
    cases hcls : r.kind.cls with
    | fault => simpa [hcls] using hroutine
    | routine =>
      have hlen : q.records.length < 60 := by rwa [hcls] at hroom
      simp only [decide_true, if_true, Config.routineLimit]
      omega
  · have hseq : q.records.map Record.seq = sequencesBelow q.seq q.records.length := hseq
    rw [List.map_append, List.length_append, hseq]
    exact (sequencesBelow_succ q.seq q.records.length).symm
  · intro x hx
    obtain hx | hx := List.mem_append.1 hx
    · exact hlost x hx
    · rw [List.mem_singleton.1 hx]; exact Nat.zero_le _

theorem countLossOnTail_map_seq (l : List Record) : (countLossOnTail l).map Record.seq = l.map Record.seq := by
  have h := congrArg (List.map Prod.snd) (countLossOnTail_map_report l)
  rwa [List.map_map, List.map_map] at h

theorem countLossOnTail_countP_report (p : Report → Bool) (l : List Record) :
    (countLossOnTail l).countP (fun r => p r.report) = l.countP fun r => p r.report := by
  have h := congrArg (List.countP fun x : Report × ByteField => p x.1) (countLossOnTail_map_report l)
  rwa [List.countP_map, List.countP_map] at h

/-- A loss counted on the tail keeps every lost count at 255 at most (R149). -/
theorem countLossOnTail_lost_le {l : List Record} (h : ∀ r ∈ l, r.lost ≤ Config.byteLimit) :
    ∀ r ∈ countLossOnTail l, r.lost ≤ Config.byteLimit := by
  rcases l.eq_nil_or_concat with rfl | ⟨front, last, rfl⟩
  · exact h
  · rw [List.concat_eq_append, countLossOnTail_append]
    intro r hr
    obtain hr | hr := List.mem_append.1 hr
    · exact h r (by rw [List.concat_eq_append]; exact List.mem_append_left _ hr)
    · rw [List.mem_singleton.1 hr]; exact Nat.min_le_right _ _

/-- A refused record keeps the bounds (R149). -/
theorem ReportQueue.Sound.countLoss {q : ReportQueue} (h : q.Sound) :
    ReportQueue.Sound { q with records := countLossOnTail q.records } := by
  obtain ⟨hlen, hroutine, hseq, hlost⟩ := h
  refine ⟨?_, ?_, ?_, countLossOnTail_lost_le hlost⟩
  · rwa [countLossOnTail_length]
  · exact (countLossOnTail_countP_report (fun r => decide (r.kind.cls = .routine)) q.records).trans_le hroutine
  · rw [countLossOnTail_map_seq, countLossOnTail_length, hseq]

theorem ReportQueue.Sound.offer {q : ReportQueue} (h : q.Sound) (r : Report) : (q.offer r).Sound := by
  rcases q.offer_cases r with ⟨hroom, hq⟩ | ⟨-, hq⟩ <;> rw [hq]
  · exact h.admitted hroom
  · exact h.countLoss

theorem ReportQueue.Sound.offers {q : ReportQueue} (h : q.Sound) (rs : List Report) : (Claims.offers q rs).Sound :=
  List.foldlRecOn (motive := ReportQueue.Sound) _ _ h fun _ hq r _ => hq.offer r

/-- The head's removal keeps the bounds (R153). -/
theorem ReportQueue.Sound.pop {q : ReportQueue} (h : q.Sound) : q.pop.Sound := by
  obtain ⟨hlen, hroutine, hseq, hlost⟩ := h
  have hsub : q.pop.records.Sublist q.records := List.tail_sublist _
  refine ⟨hsub.length_le.trans hlen, (hsub.countP_le).trans hroutine, ?_, fun r hr => hlost r (hsub.subset hr)⟩
  have hseq : q.records.map Record.seq = sequencesBelow q.seq q.records.length := hseq
  have htail : q.pop.records.map Record.seq = sequencesBelow q.seq q.pop.records.length := by
    simp only [ReportQueue.pop, List.map_tail, hseq, sequencesBelow_tail, List.length_tail]
  exact htail

/-- Every change of the queue keeps its bounds. -/
theorem State.QueueChange.sound {c : Instr} (h : s.QueueChange c t) (hs : s.queue.Sound) : t.queue.Sound := by
  cases h with
  | offered h =>
    obtain ⟨rs, h⟩ := h
    rw [h]; exact hs.offers rs
  | popped _ h => rw [h]; exact hs.pop
  | emptied _ h => rw [h]; exact ReportQueue.reset_sound

/-! ### The two levels (R159) -/

theorem watermarkOf_eq_some {w : Word} {n : Nat} (h : watermarkOf w = some n) : 1 ≤ n ∧ n ≤ 64 := by
  obtain ⟨hrange, hn⟩ := Option.ite_none_right_eq_some.1 h
  exact Option.some.inj hn ▸ hrange

theorem spaceLevelOf_eq_some {w : Word} {n : Nat} (h : spaceLevelOf w = some n) : n < 1024 := by
  obtain ⟨hrange, hn⟩ := Option.ite_none_right_eq_some.1 h
  exact Option.some.inj hn ▸ hrange

theorem State.watermarkWrite_irqSound (hs : s.irq.Sound) (w : Word) : (s.watermarkWrite w).irq.Sound := by
  unfold State.watermarkWrite; split
  · exact ⟨watermarkOf_eq_some ‹_›, hs.2⟩
  · exact hs

theorem State.spaceLevelWrite_irqSound (hs : s.irq.Sound) (w : Word) : (s.spaceLevelWrite w).irq.Sound := by
  unfold State.spaceLevelWrite; split
  · exact ⟨hs.1, Nat.lt_succ_iff.1 (spaceLevelOf_eq_some ‹_›)⟩
  · exact hs

theorem State.ringData_irqSound (hs : s.irq.Sound) (w : Word) : (s.ringData w).irq.Sound := by
  unfold State.ringData; split <;> exact hs

theorem State.irqStatusWrite_irqSound (hs : s.irq.Sound) (w : Word) : (s.irqStatusWrite w).irq.Sound := by
  unfold State.irqStatusWrite; split <;> exact hs

theorem State.posSelectWrite_irq (s : State) (w : Word) : (s.posSelectWrite w).irq = s.irq := by
  unfold State.posSelectWrite; split <;> rfl

theorem State.lineSelectWrite_irq (s : State) (w : Word) : (s.lineSelectWrite w).irq = s.irq := by
  unfold State.lineSelectWrite; split <;> rfl

theorem State.busWrite_irqSound (hs : s.irq.Sound) (offset : BitVec 5) (w : Word) :
    (s.busWrite offset w).irq.Sound := by
  unfold State.busWrite; split
  · split
    · rename_i c _
      cases c with
      | startParser => exact s.startParser_fixed.irq ▸ hs
      | stopParser => exact s.stopParser_fixed.irq ▸ hs
      | quiesce => exact s.quiesce_outside.irq ▸ hs
      | ringReset | resume | engineReset => exact hs
    · exact hs
  · exact s.ringData_irqSound hs w
  · exact hs
  · exact hs
  · exact (s.resync_fixed w).irq ▸ hs
  · exact s.spaceLevelWrite_irqSound hs w
  · exact s.irqStatusWrite_irqSound hs w
  · exact hs
  · exact s.watermarkWrite_irqSound hs w
  · exact hs
  · exact s.posSelectWrite_irq w ▸ hs
  · exact s.lineSelectWrite_irq w ▸ hs
  · exact hs

theorem State.tick_irq (s : State) (fb : Word) : (s.tick fb).irq = s.irq := by
  rw [← s.settleAll_fixed.irq]
  unfold State.tick
  generalize s.settleAll = u
  rfl

theorem State.backwardChange_irq (s : State) (enc : Enc) : (s.backwardChange enc).irq = s.irq := by
  rw [State.backwardChange_eq rfl, ← (s.settleAxis_fixed enc).irq]
  generalize s.settleAxis enc = u
  refine ((State.expire_outside _ _ _).trans (State.engineNotice_outside _ _)).irq.trans ?_
  exact u.setEncAxis_irq enc _

theorem State.quadTransition_irq (s : State) (enc : Enc) (ph : Phases) : (s.quadTransition enc ph).irq = s.irq := by
  have hset := fun a => s.setEncAxis_irq enc a
  rcases State.quadTransition_cases (s := s) (enc := enc) rfl ph with ⟨-, h⟩ | ⟨-, h⟩ | ⟨-, h⟩ <;> rw [h]
  · exact hset _
  · exact (State.setEncAxis_irq _ enc _).trans ((State.settleAxis_fixed _ enc).irq.trans (hset _))
  · exact (State.backwardChange_irq _ enc).trans (hset _)

theorem State.configAxis_irq (s : State) (enc : Enc) (c : AxisSettings) : (s.configAxis enc c).irq = s.irq := by
  unfold State.configAxis; dsimp only; repeat' split
  exacts [rfl, s.setEncAxis_irq enc _, rfl]

theorem State.presetAxis_irq (s : State) (enc : Enc) (p : Pos) : (s.presetAxis enc p).irq = s.irq := by
  unfold State.presetAxis; dsimp only; split
  exacts [rfl, s.setEncAxis_irq enc _]

theorem State.switchBank_irq (s : State) : s.switchBank.irq = s.irq := by
  unfold State.switchBank; split <;> rfl

/-- A packet whose owner leaves the interrupt block. -/
theorem State.onPacket_irq (s : State) (kind : PacketKind) {take : Nat → Packet → State}
    (h : ∀ len p, (take len p).irq = s.irq) : (s.onPacket kind take).irq = s.irq :=
  State.onPacket_induct (P := fun t => t.irq = s.irq) rfl rfl fun len p _ => h len p

/-- The rows that act on the fixed blocks keep the levels in range. -/
theorem exec_keeps_irqSound_of_actsOnFixed {c : Instr} (hs : s.irq.Sound) (h : exec c s = .next t)
    (hc : c.actsOnFixed = true) : t.irq.Sound := by
  have hsame := fun {u : State} (hu : u.irq = s.irq) => (hu ▸ hs : u.irq.Sound)
  cases c
  case tick fb =>
    obtain rfl : s.tick fb = t := Host.Outcome.next.inj h
    exact hsame (s.tick_irq fb)
  all_goals cases h
  case hardwareReset p q di fb => exact (by decide : Interrupt.reset.Sound)
  case quadTransition enc ph => exact hsame (s.quadTransition_irq enc ph)
  case configAxis =>
    exact hsame <| s.onPacket_irq _ fun len p => by
      split
      exacts [s.configAxis_irq _ _, rfl]
  case presetAxis =>
    exact hsame <| s.onPacket_irq _ fun len p => by
      split
      exacts [s.presetAxis_irq _ _, rfl]
  case writeRecipe =>
    exact hsame <| s.onPacket_irq _ fun len p => by
      split
      exacts [s.setBank_irq _ _, rfl]
  case writeSteps =>
    exact hsame <| s.onPacket_irq _ fun len p => by
      split
      exacts [s.setBank_irq _ _, rfl]
  case copyBank => exact hsame <| s.onPacket_irq _ fun len _ => s.setBank_irq _ _
  case switchBank => exact hsame <| s.onPacket_irq _ fun len _ => s.switchBank_irq
  case ringData w => exact State.ringData_irqSound hs w
  case irqStatusWrite w => exact State.irqStatusWrite_irqSound hs w
  case reportWatermarkWrite w => exact State.watermarkWrite_irqSound hs w
  case ringSpaceLevelWrite w => exact State.spaceLevelWrite_irqSound hs w
  case posSelectWrite w => exact hsame (s.posSelectWrite_irq w)
  case lineSelectWrite w => exact hsame (s.lineSelectWrite_irq w)
  case registerWriteIgnored o w => exact State.busWrite_irqSound hs o w
  case ringReset | engineReset | ringPublish | ringWithdraw | irqEnableWrite | posLowRead => exact hs
  all_goals cases hc

theorem exec_keeps_irqSound {c : Instr} (hs : s.irq.Sound) (h : exec c s = .next t) : t.irq.Sound := by
  cases hc : c.actsOnFixed with
  | false => rw [(exec_sameFixed h hc).irq]; exact hs
  | true => exact exec_keeps_irqSound_of_actsOnFixed hs h hc

/-- Settles O15: every change of the queue keeps its bounds, and the levels are written in range alone. -/
theorem stepKeepsTheReportQueueBounds : Obligations.StepKeepsTheReportQueueBounds := fun s t hq hi =>
  step_keeps (P := fun u => u.queue.Sound ∧ u.irq.Sound) (fun _ _ hs => hs)
    (fun _ _ _ hs h => ⟨(exec_queueChange h).sound hs.1, exec_keeps_irqSound hs.2 h⟩) s t ⟨hq, hi⟩

/-- Settles O24: a well-formed command that is no reset and no REPORT_POP only offers, and offers leave the records
held in front. -/
theorem recordsStayUntilPopped : Obligations.RecordsStayUntilPopped := by
  intro c s t h hhard hengine hpop hwf
  have hkeeps : c.takesRecords = false := by
    unfold Instr.takesRecords
    split
    · exact absurd rfl (hhard _ _ _ _)
    · exact absurd rfl hengine
    · exact absurd rfl (hpop _)
    · exact congrArg not hwf
    · rfl
  cases exec_queueChange h with
  | offered h =>
    obtain ⟨rs, h⟩ := h
    rw [h]; exact offers_isPrefix s.queue rs
  | popped hc _ => rw [hkeeps] at hc; cases hc
  | emptied hc _ => rw [hkeeps] at hc; cases hc

end Sys2Proof.Machine
end

section
/-!
The interrupt block: its two registers, the seven causes and the level of IRQ_N (R155 to R158).
-/
namespace Sys2Proof.Machine

variable (s : State)

/-! ### Causes (R155) -/

/-- The seven causes, from bit 0 up. -/
theorem State.causes_bits :
    s.causes.getLsbD 0 = s.reportPending ∧ s.causes.getLsbD 1 = s.reportHigh ∧
    s.causes.getLsbD 2 = s.faultPending ∧ s.causes.getLsbD 3 = s.ringSpace ∧
    s.causes.getLsbD 4 = s.parserHalted ∧ s.causes.getLsbD 5 = s.engineQuiesced ∧
    s.causes.getLsbD 6 = s.irq.overrun := by
  unfold State.causes
  generalize s.reportPending = b0, s.reportHigh = b1, s.faultPending = b2, s.ringSpace = b3, s.parserHalted = b4,
    s.engineQuiesced = b5, s.irq.overrun = b6
  revert b0 b1 b2 b3 b4 b5 b6
  decide

theorem State.reportPending_iff : s.reportPending = true ↔ s.queue.records ≠ [] := by
  rw [State.reportPending, decide_eq_true_iff, List.length_pos_iff]

theorem State.reportHigh_iff : s.reportHigh = true ↔ s.irq.watermark ≤ s.queue.records.length := decide_eq_true_iff

theorem State.faultPending_iff : s.faultPending = true ↔ ∃ r ∈ s.queue.records, r.report.kind.cls = .fault := by
  simp only [State.faultPending, ReportQueue.faultCount, decide_eq_true_iff, List.countP_pos_iff]

theorem State.ringSpace_iff : s.ringSpace = true ↔ s.irq.spaceLevel ≤ s.ring.free := decide_eq_true_iff

theorem State.parserHalted_iff : s.parserHalted = true ↔ s.parser.state = .halted := decide_eq_true_iff

theorem State.engineQuiesced_iff : s.engineQuiesced = true ↔ s.engine = .quiesced := decide_eq_true_iff

/-! ### IRQ_N (R158) -/

/-- Two words have a bit in common. -/
theorem and_ne_zero_iff {w : Nat} (x y : BitVec w) :
    x &&& y ≠ 0 ↔ ∃ k < w, x.getLsbD k = true ∧ y.getLsbD k = true := by
  rw [ne_eq, BitVec.eq_of_getLsbD_eq_iff]
  simp

/-- IRQ_N is low exactly while a cause is present and enabled. -/
theorem State.irqN_low_iff :
    s.irqN = false ↔ ∃ k < 7, s.causes.getLsbD k = true ∧ s.irq.enable.getLsbD k = true := by
  rw [State.irqN, decide_eq_false_iff_not, ← and_ne_zero_iff]

/-- Settles O35: each register's write, IRQ_N by its enabled causes, and each cause by its bit. -/
theorem interruptRegisters : Obligations.InterruptRegisters := by
  intro s w
  obtain ⟨hpending, hhigh, hfault, hspace, hhalted, hquiesced, hoverrun⟩ := s.causes_bits
  rw [hpending, hhigh, hfault, hspace, hhalted, hquiesced, hoverrun]
  exact ⟨rfl, fun h => congrArg Host.Outcome.next (if_pos h),
    fun h => congrArg Host.Outcome.next (if_neg (Bool.eq_false_iff.1 h)), s.irqN_low_iff, s.reportPending_iff,
    s.reportHigh_iff, s.faultPending_iff, s.ringSpace_iff, s.parserHalted_iff, s.engineQuiesced_iff, Iff.rfl⟩

end Sys2Proof.Machine
end

section
/-!
The contents of the report records (11.4.1 to 11.4.3): each detail and each field by its bits; and the queue's answer to
an offer and to REPORT_POP (R148, R149, R153).
-/
namespace Sys2Proof.Machine

/-! ### Codes as bits (11.3, 11.3.1, 11.4.2) -/

theorem Axis.code_eq (ax : Axis) : ax.code = (Claims.axisBits ax).toNat := by cases ax <;> rfl
theorem MonitorAction.code_eq (a : MonitorAction) : a.code = (Claims.monitorActionBit a).toNat := by cases a <;> rfl
theorem Verdict.code_eq (v : Verdict) : v.code = (Claims.verdictBits (some v)).toNat := by cases v <;> rfl
theorem PacketKind.code_eq (k : PacketKind) : k.code = (Claims.packetKindBits k).toNat := by cases k <;> rfl

theorem Origin.value_eq (o : Origin) : o.value = Claims.originValue (some o) := by cases o <;> rfl

/-- The origin kind of a record that may have no origin. -/
theorem originKind_getD (o : Option Origin) : (o.map Origin.kindCode).getD 0 = (Claims.originKindBits o).toNat := by
  rcases o with _ | _ | _ <;> rfl

theorem originValue_getD (o : Option Origin) : (o.map Origin.value).getD 0 = Claims.originValue o := by
  rcases o with _ | _ | _ <;> rfl

/-! ### Details (11.4.2) -/

theorem faultDetail_eq (kind : FaultKind) (action : MonitorAction) (st : LineState) (origin : Option Origin) :
    detailOf (kind.code + 4 * action.code + 16 * st.code + 256 * (origin.map Origin.kindCode).getD 0) =
      0#11 ++ Claims.originKindBits origin ++ 0#1 ++ Claims.lineBits st ++ 0#1 ++ Claims.monitorActionBit action ++
        Claims.faultBits kind := by
  refine BitVec.eq_of_toNat_eq ?_
  simp only [detailOf, append_toNat, BitVec.toNat_ofNat, FaultKind.code_eq, MonitorAction.code_eq,
    LineState.code_eq, originKind_getD]
  omega

theorem originDetail_eq (origin : Origin) :
    detailOf (256 * origin.kindCode) = 0#11 ++ Claims.originKindBits (some origin) ++ 0#8 := by
  refine BitVec.eq_of_toNat_eq ?_
  simp only [detailOf, append_toNat, BitVec.toNat_ofNat, Origin.kindCode_eq]
  omega

theorem Item.layout_eq (x : Item) (removed : Nat) : detailOf (x.layout removed) = Claims.itemDetail x removed := by
  refine BitVec.eq_of_toNat_eq ?_
  have hrecipe := x.recipe.isLt
  simp only [detailOf, Item.layout, Claims.itemDetail, append_toNat, BitVec.toNat_ofNat, Item.verdictCode_eq,
    Item.sourceCode_eq, flagCode_eq, BankId.code_eq, ItemOrigin.code_eq]
  omega

theorem defaultDetail_eq (v : Verdict) (tagged : Bool) :
    detailOf (v.code + 16 * flagCode tagged) =
      0#16 ++ BitVec.ofBool tagged ++ 0#2 ++ Claims.verdictBits (some v) := by
  refine BitVec.eq_of_toNat_eq ?_
  simp only [detailOf, append_toNat, BitVec.toNat_ofNat, Verdict.code_eq, flagCode_eq]
  omega

theorem doneDetail_eq (u : Pulse) (reason : EndReason) :
    detailOf (reason.code + 8 * flagCode u.late + 16 * flagCode u.deferred + 256 * u.origin.kindCode) =
      0#11 ++ Claims.originKindBits (some u.origin) ++ 0#3 ++ BitVec.ofBool u.deferred ++ BitVec.ofBool u.late ++
        Claims.endReasonBits reason := by
  refine BitVec.eq_of_toNat_eq ?_
  simp only [detailOf, append_toNat, BitVec.toNat_ofNat, EndReason.code_eq, flagCode_eq, Origin.kindCode_eq]
  omega

theorem droppedDetail_eq (q : FiringRequest) (reason : DropReason) :
    detailOf (reason.code + 8 * flagCode q.late + 256 * q.origin.kindCode) =
      0#11 ++ Claims.originKindBits (some q.origin) ++ 0#4 ++ BitVec.ofBool q.late ++ Claims.dropReasonBits reason := by
  refine BitVec.eq_of_toNat_eq ?_
  simp only [detailOf, append_toNat, BitVec.toNat_ofNat, DropReason.code_eq, flagCode_eq, Origin.kindCode_eq]
  omega

theorem refusedDetail_eq (kind : PacketKind) (reason : Reason) {bankCheck : Nat} (h : bankCheck < 4) :
    detailOf (reason.code + 16 * bankCheck + 256 * kind.code) =
      0#8 ++ Claims.packetKindBits kind ++ 0#2 ++ BitVec.ofNat 2 bankCheck ++ Claims.reasonBits reason := by
  refine BitVec.eq_of_toNat_eq ?_
  simp only [detailOf, append_toNat, BitVec.toNat_ofNat, Reason.code_eq, PacketKind.code_eq]
  omega

/-- The on-duration of FIRE_DONE, which stops at 65,535 (R126). -/
theorem num_onDuration (start t : Pos) :
    num (onDuration start t) = if (t - start).toNat ≤ 65535 then (t - start).extractLsb' 0 16 else 65535 := by
  unfold num onDuration Config.maxDuration
  refine BitVec.eq_of_toNat_eq ?_
  split
  · rename_i h
    rw [Nat.min_eq_left h, BitVec.toNat_ofNat, BitVec.extractLsb'_toNat]
    simp
  · rename_i h
    rw [Nat.min_eq_right (by omega)]
    rfl

/-! ### The queue's answers (R148, R149, R153) -/

/-- An offer is refused with records held alone, so there is a tail to count it on. -/
theorem ReportQueue.offer_refused {q : ReportQueue} {r : Report} (h : r.kind.cls.limit ≤ q.records.length) :
    ∃ front tail, q.records = front ++ [tail] ∧
      q.offer r = { records := front ++ [tail.countLoss], seq := q.seq } := by
  have hlimit : 0 < r.kind.cls.limit := by cases r.kind.cls <;> decide
  rcases q.records.eq_nil_or_concat with hnil | ⟨front, tail, hcons⟩
  · rw [hnil] at h; exact absurd (hlimit.trans_le h) (by simp)
  · rw [List.concat_eq_append] at hcons
    refine ⟨front, tail, hcons, ?_⟩
    rw [ReportQueue.offer, if_neg (Nat.not_lt.2 h), hcons, countLossOnTail_append]

theorem ReportQueue.offer_admitted {q : ReportQueue} {r : Report} (h : q.records.length < r.kind.cls.limit) :
    q.offer r = { records := q.records ++ [{ report := r, seq := q.seq, lost := 0 }], seq := q.seq + 1 } :=
  if_pos h

theorem Record.countLoss_eq (r : Record) :
    r.countLoss = { r with lost := if r.lost < 255 then r.lost + 1 else 255 } := by
  have hlost : min (r.lost + 1) 255 = if r.lost < 255 then r.lost + 1 else 255 := by split <;> omega
  rw [Record.countLoss, Config.byteLimit, hlost]

theorem State.reportPop_nil {s : State} (h : s.queue.records = []) : s.reportPop = s := by
  unfold State.reportPop ReportQueue.pop
  rw [h, List.tail_nil, ← h]

theorem State.reportPop_cons {s : State} {r : Record} {rest : List Record} (h : s.queue.records = r :: rest) :
    s.reportPop = { s with queue := { s.queue with records := rest } } := by
  unfold State.reportPop ReportQueue.pop
  rw [h, List.tail_cons]

theorem ReportQueue.faultCount_cons {q : ReportQueue} {r : Record} {rest : List Record} (h : q.records = r :: rest) :
    q.faultCount =
      ({ q with records := rest }).faultCount + (if r.report.kind.cls = .fault then 1 else 0) := by
  simp only [ReportQueue.faultCount, h, List.countP_cons, decide_eq_true_eq]

/-- Settles O34: the offer by the class's limit, the pop by the head, and each record by its detail's bits. -/
theorem queueTakesOffersAndPops : Obligations.QueueTakesOffersAndPops := by
  refine ⟨fun q r => ⟨fun h => ReportQueue.offer_admitted ?admitted, fun h => ?refused⟩,
    fun s w => ⟨fun h => congrArg Host.Outcome.next (State.reportPop_nil h),
      fun r rest h => ⟨congrArg Host.Outcome.next (State.reportPop_cons h), ReportQueue.faultCount_cons h⟩⟩,
    fun n kind action st origin t => ?lineFault, fun n origin t => ?lineOvertime, fun h x => ?itemDone,
    fun h x removed => ?itemCancelled, fun h v ax p step tag => ?verdictDefaulted, fun n u reason t => ?fireDone,
    fun n q reason => ?fireDropped, fun kind reason bankCheck subject aux1 aux2 hcheck => ?cmdRefused,
    fun h => rfl, fun enc => ?encoder, fun v => ?verdict, fun a => ?lineAction, fun c a => ?fence⟩
  case admitted => rcases h with ⟨hc, hl⟩ | ⟨hc, hl⟩ <;> rw [hc] <;> exact hl
  case refused =>
    have hlimit : r.kind.cls.limit ≤ q.records.length := by
      rcases h with ⟨hc, hl⟩ | ⟨hc, hl⟩ <;> rw [hc] <;> exact hl
    obtain ⟨front, tail, hq, ho⟩ := ReportQueue.offer_refused hlimit
    exact ⟨front, tail, hq, by rw [ho, Record.countLoss_eq]⟩
  case lineFault => rw [lineFaultReport, faultDetail_eq, originValue_getD]; rfl
  case lineOvertime => rw [lineOvertimeReport, originDetail_eq, Origin.value_eq]; rfl
  case itemDone => rw [itemDoneReport, Item.layout_eq]; rfl
  case itemCancelled => rw [itemCancelledReport, Item.layout_eq]; rfl
  case verdictDefaulted => rw [verdictDefaultedReport, defaultDetail_eq]; rfl
  case fireDone => rw [fireDoneReport, doneDetail_eq, num_onDuration, Origin.value_eq]; rfl
  case fireDropped => rw [fireDroppedReport, droppedDetail_eq, Origin.value_eq]; rfl
  case cmdRefused => rw [cmdRefusedReport, refusedDetail_eq kind reason hcheck]; rfl
  case encoder => cases enc <;> rfl
  case verdict => cases v <;> rfl
  case lineAction => cases a <;> rfl
  case fence => rcases a with (_ | _ | _) | _ <;> cases c <;> rfl

end Sys2Proof.Machine
end

section
/-!
The register window: what the writes of the four number registers take (R159, R191, R194), and the word that a read of
each register returns, bit by bit (11.1, 11.2, 11.4).
-/
namespace Sys2Proof

/-- Codes from 3 up name no axis (11.3.1). -/
theorem decodeAxis_eq_none {n : Nat} (h : 3 ≤ n) : decodeAxis n = none := by
  unfold decodeAxis
  split
  case h_4 => rfl
  all_goals omega

theorem decodeFin_eq_none {n k : Nat} (h : n ≤ k) : decodeFin n k = none := dif_neg (Nat.not_lt.2 h)

end Sys2Proof

namespace Sys2Proof.Machine

variable {s : State} {w : Word}

/-! ### The writes (R159, R191, R194) -/

theorem watermarkOf_in_range (h : 1 ≤ w.toNat ∧ w.toNat ≤ 64) : watermarkOf w = some w.toNat := if_pos h

theorem watermarkOf_out_of_range (h : w.toNat = 0 ∨ 65 ≤ w.toNat) : watermarkOf w = none := if_neg (by omega)

theorem spaceLevelOf_in_range (h : w.toNat ≤ 1023) : spaceLevelOf w = some w.toNat := if_pos (by omega)

theorem spaceLevelOf_out_of_range (h : 1024 ≤ w.toNat) : spaceLevelOf w = none := if_neg (by omega)

theorem posSelectOf_code {ax : Axis} (h : w.toNat = ax.code) : posSelectOf w = some ax := by
  rw [posSelectOf, h, decodeAxis_code]

theorem lineSelectOf_val {n : Fin 16} (h : w.toNat = n.val) : lineSelectOf w = some n := by
  rw [lineSelectOf, h, decodeFin_val]

theorem State.watermarkWrite_some {n : Nat} (h : watermarkOf w = some n) :
    s.watermarkWrite w = { s with irq := { s.irq with watermark := n } } := by rw [State.watermarkWrite, h]

theorem State.watermarkWrite_none (h : watermarkOf w = none) : s.watermarkWrite w = s := by
  rw [State.watermarkWrite, h]

theorem State.spaceLevelWrite_some {n : Nat} (h : spaceLevelOf w = some n) :
    s.spaceLevelWrite w = { s with irq := { s.irq with spaceLevel := n } } := by rw [State.spaceLevelWrite, h]

theorem State.spaceLevelWrite_none (h : spaceLevelOf w = none) : s.spaceLevelWrite w = s := by
  rw [State.spaceLevelWrite, h]

theorem State.posSelectWrite_some {ax : Axis} (h : posSelectOf w = some ax) :
    s.posSelectWrite w = { s with bus := { s.bus with posSelect := ax } } := by rw [State.posSelectWrite, h]

theorem State.posSelectWrite_none (h : posSelectOf w = none) : s.posSelectWrite w = s := by
  rw [State.posSelectWrite, h]

theorem State.lineSelectWrite_some {n : Fin 16} (h : lineSelectOf w = some n) :
    s.lineSelectWrite w = { s with bus := { s.bus with lineSelect := n } } := by rw [State.lineSelectWrite, h]

theorem State.lineSelectWrite_none (h : lineSelectOf w = none) : s.lineSelectWrite w = s := by
  rw [State.lineSelectWrite, h]

/-- The whole ring is free exactly when nothing in it is published or waits to be (R163). -/
theorem Ring.free_full_iff {r : Ring} (h : r.PathSound) : 1023 ≤ r.free ↔ r.published = 0 ∧ r.unpublished = 0 := by
  have h : (r.publish - r.read).toNat ≤ (r.fill - r.read).toNat := h
  rw [r.free_eq]
  unfold Ring.published Ring.unpublished
  constructor
  · intro hfree
    have hfill : r.fill = r.read := by bv_omega
    have hpublish : r.publish = r.read := by bv_omega
    rw [hfill, hpublish, BitVec.sub_self]
    exact ⟨rfl, rfl⟩
  · rintro ⟨hpublished, hunpublished⟩
    bv_omega

/-! ### Small numbers and fields (11.1) -/

theorem num_toNat {n : Nat} (h : n < 65536) : (num n).toNat = n := by
  rw [num, BitVec.toNat_ofNat, Nat.mod_eq_of_lt h]

/-- A ring index as a word. -/
theorem ringIndex_word (i : RingIndex) : i.setWidth 16 = 0#6 ++ i := by
  refine BitVec.eq_of_toNat_eq ?_
  simp only [BitVec.toNat_setWidth, append_toNat, BitVec.toNat_ofNat]
  omega

/-- The seven causes, or their enables, as a word. -/
theorem causes_word (x : BitVec 7) : x.setWidth 16 = 0#9 ++ x := by
  refine BitVec.eq_of_toNat_eq ?_
  simp only [BitVec.toNat_setWidth, append_toNat, BitVec.toNat_ofNat]
  omega

theorem axisCode_word (ax : Axis) : num ax.code = 0#14 ++ Claims.axisBits ax := by cases ax <;> rfl

/-! ### Blocks in order of their numbers -/

theorem toList_eq_map_finRange {α : Type} {n : Nat} (v : Vector α n) :
    v.toList = (List.finRange n).map fun i => v[i] :=
  List.ext_getElem (by simp) (by simp)

theorem State.anyFaulted_eq (s : State) : s.anyFaulted = decide (∃ n : Fin 16, (s.line n).state = .faulted) := by
  rw [State.anyFaulted, toList_eq_map_finRange, Bool.eq_iff_iff, decide_eq_true_iff]
  simp [State.line]

theorem State.itemsInUse_eq (s : State) :
    s.itemsInUse = (List.finRange 64).countP fun i => (s.slot i).item.isSome := by
  rw [State.itemsInUse, toList_eq_map_finRange, List.countP_map]
  rfl

theorem State.itemsInUse_le (s : State) : s.itemsInUse ≤ 64 := by
  rw [State.itemsInUse_eq]
  exact List.countP_le_length.trans_eq (List.length_finRange ..)

/-! ### Status words (11.2) -/

theorem State.stateWord_eq (s : State) : s.stateWord = Claims.stateBits s := by
  refine BitVec.eq_of_toNat_eq ?_
  simp only [State.stateWord, Claims.stateBits, num, append_toNat, BitVec.toNat_ofNat, EngineState.code_eq,
    ParserState.code_eq, BankId.code_eq, flagCode_eq, State.anyFaulted_eq]
  omega

/-- LINE_STATUS holds the mismatch count in three bits (R194). -/
theorem Line.status_eq {l : Line} (h : l.mismatch < 8) : l.status = Claims.lineStatusBits l := by
  refine BitVec.eq_of_toNat_eq ?_
  simp only [Line.status, Claims.lineStatusBits, num, append_toNat, BitVec.toNat_ofNat, LineState.code_eq,
    FaultKind.code_eq, flagCode_eq]
  omega

theorem Line.Sound.mismatch_lt {l : Line} (h : l.Sound) : l.mismatch < 8 := by
  have hk : l.mon.threshold.toNat ≤ 8 := by cases l.mon.threshold <;> decide
  exact h.count_lt.trans_le hk

theorem State.detStatus_eq (s : State) : s.detStatus = Claims.detStatusBits s := by
  refine BitVec.eq_of_toNat_eq ?_
  have hdets : s.dets.toList =
      [s.det 0, s.det 1, s.det 2, s.det 3, s.det 4, s.det 5, s.det 6, s.det 7] := toList_eq_map_finRange s.dets
  simp only [State.detStatus, hdets, List.foldr_cons, List.foldr_nil, Claims.detStatusBits, num, append_toNat,
    BitVec.toNat_ofNat, DetectorState.code_eq]
  omega

theorem Parser.diag_eq (p : Parser) : p.diag = 0#1 ++ Claims.haltBits p.haltCode ++ 0#2 ++ p.haltIndex := by
  have hcode : p.haltCode.code = (Claims.haltBits p.haltCode).toNat := by cases p.haltCode <;> rfl
  refine BitVec.eq_of_toNat_eq ?_
  simp only [Parser.diag, num, append_toNat, BitVec.toNat_ofNat, hcode]
  omega

theorem State.debtWord_of_enc {enc : Enc} (h : s.bus.posSelect = enc.axis) : s.debtWord = num (s.encAxis enc).debt := by
  unfold State.debtWord
  cases enc <;> rw [h] <;> rfl

/-! ### The words of the head record (11.4) -/

theorem ReportQueue.headWord_nil {q : ReportQueue} (h : q.records = []) (n : Nat) : q.headWord n = 0 := by
  rw [ReportQueue.headWord, h]

/-- The class bit of a kind: the FAULT kinds have the codes 1 to 5. -/
theorem ReportKind.cls_code_eq (k : ReportKind) :
    k.cls.code = (BitVec.ofBool (decide ((Claims.kindBits k).toNat ≤ 5))).toNat := by cases k <;> rfl

theorem Record.word_zero (r : Record) :
    r.word 0 = BitVec.ofBool (decide ((Claims.kindBits r.report.kind).toNat ≤ 5)) ++
      r.report.detail.extractLsb' 16 5 ++ Claims.axisBits r.report.axis ++ Claims.kindBits r.report.kind := by
  refine BitVec.eq_of_toNat_eq ?_
  simp only [Record.word, num, append_toNat, BitVec.toNat_ofNat, BitVec.extractLsb'_toNat, Nat.shiftRight_eq_div_pow,
    ReportKind.code_eq, Axis.code_eq, ReportKind.cls_code_eq]
  omega

theorem Record.word_one (r : Record) : r.word 1 = BitVec.ofNat 8 r.lost ++ r.seq := by
  rw [Record.word, wordOf, BitVec.ofNat_toNat, BitVec.setWidth_eq]
  rfl

theorem Record.word_five (r : Record) : r.word 5 = r.report.detail.extractLsb' 0 16 := by
  refine BitVec.eq_of_toNat_eq ?_
  simp [Record.word]

/-- The words at REPORT_0 to REPORT_7, by the fields of the head record. -/
theorem ReportQueue.headWord_eq (q : ReportQueue) {n : Nat} (h : n < 8) : q.headWord n = Claims.headBits q n := by
  unfold ReportQueue.headWord Claims.headBits
  cases q.records with
  | nil => rfl
  | cons r rest =>
    match n, h with
    | 0, _ => exact r.word_zero
    | 1, _ => exact r.word_one
    | 2, _ | 3, _ | 4, _ | 6, _ | 7, _ => rfl
    | 5, _ => exact r.word_five

/-! ### Reads (R189, 11.1) -/

/-- A read of any register returns the word that 11.1 gives for its offset. -/
theorem State.readRegister_eq (hs : s.LinesSound) (offset : BitVec 5) :
    s.readRegister offset = Claims.windowWord s offset := by
  have hoffset := offset.isLt
  have hhead := fun n (hn : n < 8) => s.queue.headWord_eq hn
  unfold State.readRegister
  split <;> rename_i ho
  case h_1 => simp only [Claims.windowWord, ho, State.stateWord_eq]
  case h_2 | h_3 => simp only [Claims.windowWord, ho, ringIndex_word]
  case h_6 | h_7 => simp only [Claims.windowWord, ho, causes_word]
  case h_10 | h_11 | h_12 | h_13 | h_14 | h_15 | h_16 | h_17 => simp only [Claims.windowWord, ho, hhead, Nat.reduceLT]
  case h_18 => simp only [Claims.windowWord, ho, axisCode_word]
  case h_20 => simp only [Claims.windowWord, ho]
  case h_21 => simp only [Claims.windowWord, ho, State.itemsInUse_eq, num]
  case h_24 => simp only [Claims.windowWord, ho, Line.status_eq (hs _).mismatch_lt]
  case h_25 => simp only [Claims.windowWord, ho, State.detStatus_eq]
  case h_27 => simp only [Claims.windowWord, ho, Parser.diag_eq]
  case h_28 =>
    have hwrite : offset.toNat = 0 ∨ offset.toNat = 2 ∨ offset.toNat = 3 ∨ offset.toNat = 4 ∨ offset.toNat = 13 := by
      simp only [imp_false] at *
      omega
    rcases hwrite with ho | ho | ho | ho | ho <;> simp only [Claims.windowWord, ho]
  all_goals
    simp only [Claims.windowWord, ho]
    rfl

/-- Every register of access W reads 0 (R189). -/
theorem State.readRegister_writeOnly (s : State) :
    ∀ offset ∈ [0x00#5, 0x02#5, 0x03#5, 0x04#5, 0x0D#5], s.readRegister offset = 0 := by
  simp only [List.forall_mem_cons, List.not_mem_nil, false_implies, implies_true, and_true]
  exact ⟨rfl, rfl, rfl, rfl, rfl⟩

/-- With an empty queue the eight words of the head read 0 (R152). -/
theorem State.readRegister_head_nil (h : s.queue.records = []) {n : Nat} (hn : n < 8) :
    s.readRegister (BitVec.ofNat 5 (0x0E + n)) = 0 := by
  have hnil := ReportQueue.headWord_nil h
  interval_cases n
  exacts [hnil 0, hnil 1, hnil 2, hnil 3, hnil 4, hnil 5, hnil 6, hnil 7]

theorem State.PoolSound.freeCount_le (h : s.PoolSound) : s.freeCount ≤ 256 := by
  have hlen := h.1.length_eq
  rw [List.length_append, List.length_range, Config.entryCount] at hlen
  unfold State.freeCount
  omega

theorem State.AxesSound.debt_le (h : s.AxesSound) (enc : Enc) : (s.encAxis enc).debt ≤ 65535 := by
  obtain ⟨⟨-, -, h1, -⟩, ⟨-, -, h2, -⟩⟩ := h
  cases enc
  exacts [h1, h2]

/-- Settles O36: each number register by its range, and each read by the bits of its word. -/
theorem registersTakeTheirRanges : Obligations.RegistersTakeTheirRanges := by
  have hnext : ∀ {t u : State}, t = u → (.next t : Host.Outcome State Fault Refusal) = .next u :=
    congrArg Host.Outcome.next
  refine ⟨fun s w => ⟨fun h => hnext (State.watermarkWrite_some (watermarkOf_in_range h)),
      fun h => hnext (State.watermarkWrite_none (watermarkOf_out_of_range h)),
      fun h => hnext (State.spaceLevelWrite_some (spaceLevelOf_in_range h)),
      fun h => hnext (State.spaceLevelWrite_none (spaceLevelOf_out_of_range h)), fun h => ?high, fun h => ?space,
      fun h hpath => ?whole⟩,
    fun s w => ⟨fun ax h => hnext (State.posSelectWrite_some (posSelectOf_code h)),
      fun h => hnext (State.posSelectWrite_none (decodeAxis_eq_none h)),
      fun n h => hnext (State.lineSelectWrite_some (lineSelectOf_val h)),
      fun h => hnext (State.lineSelectWrite_none (decodeFin_eq_none h)), rfl, rfl, rfl, State.readRegister_eq,
      s.readRegister_writeOnly, fun h n hn => State.readRegister_head_nil h hn, ?free, fun h => ?records, ?items,
      fun h => ?entries, fun h enc henc => ?debt⟩⟩
  case high => rw [State.reportHigh, h]; rfl
  case space => rw [s.ringSpace_iff, h]; exact Nat.zero_le _
  case whole => rw [s.ringSpace_iff, h]; exact Ring.free_full_iff hpath
  case free => exact num_toNat (s.ring.free_lt.trans (by decide))
  case records => exact num_toNat (h.1.trans_lt (by decide))
  case items => exact num_toNat (s.itemsInUse_le.trans_lt (by decide))
  case entries => exact num_toNat (h.freeCount_le.trans_lt (by decide))
  case debt =>
    have hread : s.readRegister 0x1E = num (s.encAxis enc).debt := State.debtWord_of_enc henc
    rw [hread, num_toNat ((h.debt_le enc).trans_lt (by decide))]

end Sys2Proof.Machine
end

section
/-!
The ring's regions, and what the ring's registers and the parser's commands make of the indexes, of the words and of
the parser's state (R163 to R168, R177 to R179).
-/
namespace Sys2Proof.Machine

/-! ### The regions (R163) -/

/-- A step of `n` words forward along the way from `p` to `q` shortens the way by `n`. -/
theorem RingIndex.distance_advance {p q : RingIndex} {n : Nat} (h : n ≤ (q - p).toNat) :
    (q - (p + BitVec.ofNat 10 n)).toNat = (q - p).toNat - n := by
  have hlt : n < 1024 := h.trans_lt (q - p).isLt
  bv_omega

/-- The published and the unpublished words together are those between read and fill (R163). -/
theorem Ring.PathSound.published_add_unpublished {r : Ring} (h : r.PathSound) :
    r.published + r.unpublished = (r.fill - r.read).toNat := by
  have h : (r.publish - r.read).toNat ≤ (r.fill - r.read).toNat := h
  unfold Ring.published Ring.unpublished
  bv_omega

/-- The three regions are all the words but the one before read (R163). -/
theorem Ring.PathSound.regions_sum {r : Ring} (h : r.PathSound) :
    r.published + r.unpublished + r.free = 1023 := by
  have hlt := (r.fill - r.read).isLt
  rw [h.published_add_unpublished, r.free_eq]
  omega

/-- Publish stays on the path when read moves forward over published words (R163). -/
theorem Ring.PathSound.advance {r : Ring} (h : r.PathSound) {n : Nat} (hn : n ≤ r.published) :
    Ring.PathSound { r with read := r.read + BitVec.ofNat 10 n } := by
  have h : (r.publish - r.read).toNat ≤ (r.fill - r.read).toNat := h
  have hn : n ≤ (r.publish - r.read).toNat := hn
  show (r.publish - (r.read + BitVec.ofNat 10 n)).toNat ≤ (r.fill - (r.read + BitVec.ofNat 10 n)).toNat
  rw [RingIndex.distance_advance hn, RingIndex.distance_advance (hn.trans h)]
  omega

/-- The words that read passes over join the free space (R163, R168, R173). -/
theorem Ring.PathSound.free_advance {r : Ring} (h : r.PathSound) {n : Nat} (hn : n ≤ r.published) :
    ({ r with read := r.read + BitVec.ofNat 10 n } : Ring).free = r.free + n := by
  have hn : n ≤ (r.fill - r.read).toNat := Nat.le_trans hn h
  have hlt := (r.fill - r.read).isLt
  have hfree : ({ r with read := r.read + BitVec.ofNat 10 n } : Ring).free =
      1023 - (r.fill - (r.read + BitVec.ofNat 10 n)).toNat := Ring.free_eq _
  rw [hfree, RingIndex.distance_advance hn, r.free_eq]
  omega

/-- The fill index moved on by one word (R164). -/
def Ring.fed (r : Ring) (words : Memory) : Ring := { r with words := words, fill := r.fill + 1 }

/-- With free space left, the way from read to fill grows by the word stored (R164). -/
theorem Ring.fed_length {r : Ring} (hfree : r.free ≠ 0) :
    (r.fill + 1 - r.read).toNat = (r.fill - r.read).toNat + 1 := by
  rw [r.free_eq] at hfree
  bv_omega

theorem Ring.PathSound.fed {r : Ring} (h : r.PathSound) (hfree : r.free ≠ 0) (words : Memory) :
    (r.fed words).PathSound :=
  (Nat.le_succ_of_le h).trans_eq (Ring.fed_length hfree).symm

theorem Ring.fed_free {r : Ring} (hfree : r.free ≠ 0) (words : Memory) : (r.fed words).free + 1 = r.free := by
  have hafter : (r.fed words).free = 1023 - (r.fill + 1 - r.read).toNat := Ring.free_eq _
  rw [r.free_eq] at hfree ⊢
  rw [hafter, Ring.fed_length (by rwa [r.free_eq])]
  omega

theorem Ring.PathSound.fed_unpublished {r : Ring} (h : r.PathSound) (hfree : r.free ≠ 0) (words : Memory) :
    (r.fed words).unpublished = r.unpublished + 1 := by
  have hsum := h.regions_sum
  have hafter := (h.fed hfree words).regions_sum
  have hpublished : (r.fed words).published = r.published := rfl
  have hstored := Ring.fed_free hfree words
  omega

/-- No published word stands at fill (R163). -/
theorem Ring.PathSound.published_ne_fill {r : Ring} (h : r.PathSound) {k : Nat} (hk : k < r.published) :
    r.read + BitVec.ofNat 10 k ≠ r.fill := by
  have h : (r.publish - r.read).toNat ≤ (r.fill - r.read).toNat := h
  have hk : k < (r.publish - r.read).toNat := hk
  have hadvance := RingIndex.distance_advance (p := r.read) (q := r.fill) (n := k) (by omega)
  intro heq
  rw [heq, BitVec.sub_self, BitVec.toNat_zero] at hadvance
  omega

/-! ### RING_DATA, RING_PUBLISH and RING_WITHDRAW (R164 to R166) -/

theorem State.ringData_full {s : State} (h : s.ring.free = 0) (w : Word) :
    s.ringData w = { s with irq := { s.irq with overrun := true } } := if_pos h

theorem State.ringData_stored {s : State} (h : s.ring.free ≠ 0) (w : Word) :
    s.ringData w = { s with ring := s.ring.fed (Memory.write s.ring.words s.ring.fill.toNat w) } := if_neg h

/-- The words taken back join the free space (R166). -/
theorem Ring.PathSound.withdraw_free {r : Ring} (h : r.PathSound) :
    ({ r with fill := r.publish } : Ring).free = r.free + r.unpublished := by
  have hsum := h.regions_sum
  have hafter := Ring.PathSound.regions_sum (r := { r with fill := r.publish }) (Nat.le_refl _)
  have hpublished : ({ r with fill := r.publish } : Ring).published = r.published := rfl
  have hunpublished : ({ r with fill := r.publish } : Ring).unpublished = 0 :=
    congrArg BitVec.toNat (BitVec.sub_self r.publish)
  omega

/-- Settles O31: the two outcomes of RING_DATA by the free space, and the two registers that move one index. -/
theorem ringDataPublishAndWithdraw : Obligations.RingDataPublishAndWithdraw := by
  refine ⟨fun s w => ⟨fun h => congrArg Host.Outcome.next (State.ringData_full h w), fun hpath hfree => ?stored⟩,
    fun s w => ⟨rfl, rfl,
      fun h => ⟨congrArg Host.Outcome.next ?publishNone, congrArg Host.Outcome.next ?withdrawNone⟩,
      fun hpath => ⟨hpath.withdraw_free, congrArg BitVec.toNat (BitVec.sub_self s.ring.fill)⟩⟩⟩
  case stored =>
    have hfree : s.ring.free ≠ 0 := by omega
    have hword := s.ringWord_ringData w
    rw [State.ringData_stored hfree w] at hword
    refine ⟨_, congrArg Host.Outcome.next (State.ringData_stored hfree w), rfl, rfl, rfl, rfl, ?_, fun i hi => ?_,
      Ring.fed_free hfree _, hpath.fed_unpublished hfree _⟩
    · rw [hword, if_pos ⟨hfree, rfl⟩]
    · rw [hword, if_neg fun h => hi h.2]
  case publishNone => rw [State.ringPublish, h]
  case withdrawNone => rw [State.ringWithdraw, ← h]

/-! ### The resync (R168) -/

/-- The way from read to the value written, in the numbers of R168. -/
theorem RingIndex.distance_eq (p : RingIndex) {w : Word} (h : w.toNat ≤ 1023) :
    (w.toNat + 1024 - p.toNat) % 1024 = (w.setWidth 10 - p).toNat := by
  bv_omega

theorem State.resyncAccepted_iff (s : State) (w : Word) :
    s.resyncAccepted w = true ↔
      (s.parser.state = .stopped ∨ s.parser.state = .halted) ∧ w.toNat ≤ 1023 ∧
        (w.toNat + 1024 - s.ring.read.toNat) % 1024 ≤ s.ring.published := by
  simp only [State.resyncAccepted, Bool.and_eq_true, decide_eq_true_eq, and_assoc, BitVec.ofNat_toNat, Config.ringWords,
    Nat.lt_succ_iff]
  refine and_congr_right fun _ => and_congr_right fun hw => ?_
  rw [RingIndex.distance_eq _ hw]

theorem State.resync_accepted {s : State} {w : Word} (h : s.resyncAccepted w = true) :
    s.resync w = { s with ring := { s.ring with read := w.setWidth 10 } }.setParser .stopped := by
  rw [State.resync, if_pos h, BitVec.ofNat_toNat]

theorem State.resync_ignored {s : State} {w : Word} (h : ¬ s.resyncAccepted w = true) : s.resync w = s := if_neg h

/-- The value of a resync, as a step forward from read (R168). -/
theorem RingIndex.eq_add_distance (p q : RingIndex) : q = p + BitVec.ofNat 10 (q - p).toNat := by
  rw [BitVec.ofNat_toNat, BitVec.setWidth_eq, add_sub_cancel]

/-- Settles O32: the three tests of a resync, and the words that an accepted one passes over. -/
theorem resyncMovesReadOrIsIgnored : Obligations.ResyncMovesReadOrIsIgnored := by
  refine fun s w => ⟨fun hstate hw hway => ⟨?accepted, fun hpath => ?freed⟩, fun h => ?ignored⟩
  case accepted =>
    exact congrArg Host.Outcome.next (State.resync_accepted ((s.resyncAccepted_iff w).2 ⟨hstate, hw, hway⟩))
  case freed =>
    rw [RingIndex.distance_eq _ hw] at hway ⊢
    rw [← hpath.free_advance hway, ← RingIndex.eq_add_distance]
  case ignored =>
    refine congrArg Host.Outcome.next (State.resync_ignored fun hacc => ?_)
    obtain ⟨hstate, hw, hway⟩ := (s.resyncAccepted_iff w).1 hacc
    rcases h with ⟨hstopped, hhalted⟩ | h | h
    · exact hstate.elim hstopped hhalted
    · omega
    · omega

/-! ### START_PARSER, STOP_PARSER and RING_RESET (R177 to R179) -/

/-- Settles O33: each command in the four states of the parser. -/
theorem parserCommands : Obligations.ParserCommands := by
  intro s
  refine ⟨fun h => ?start, fun hs hh => ?startIgnored, fun hs hh => ?stop, fun h => ?stopIgnored, rfl,
    show ((0 : RingIndex) - 0 - 1).toNat = 1023 by decide⟩
  case start =>
    refine congrArg Host.Outcome.next ?_
    rcases h with h | h <;> simp only [State.startParser, h] <;> rfl
  case startIgnored =>
    refine congrArg Host.Outcome.next ?_
    unfold State.startParser
    split
    exacts [absurd ‹_› hs, absurd ‹_› hh, rfl, rfl]
  case stop =>
    refine congrArg Host.Outcome.next ?_
    unfold State.stopParser
    split
    exacts [rfl, rfl, absurd ‹_› hs, absurd ‹_› hh]
  case stopIgnored =>
    refine congrArg Host.Outcome.next ?_
    rcases h with h | h <;> simp only [State.stopParser, h]

end Sys2Proof.Machine
end

section
/-!
The field checks from the words' side: the body of a packet that is read from some words is those words, whatever the
kind but PAD, whose body is not read (R207, 11.3.2, 11.3.3).
-/
namespace Sys2Proof

/-! ### A number that decodes is the code of what it decodes to (11.3.1) -/

theorem decodeFin_eq_some {n k : Nat} {i : Fin n} : decodeFin n k = some i ↔ i.val = k := by
  unfold decodeFin
  split
  · rw [Option.some.injEq, Fin.ext_iff, eq_comm]
  · simp only [reduceCtorEq, false_iff]; omega

theorem decodeAxis_eq_some {n : Nat} {x : Axis} : decodeAxis n = some x ↔ x.code = n := by
  refine ⟨fun h => ?_, fun h => h ▸ decodeAxis_code x⟩
  unfold decodeAxis at h; split at h <;> cases h <;> rfl

theorem decodeEnc_eq_some {n : Nat} {x : Enc} : decodeEnc n = some x ↔ x.code = n := by
  refine ⟨fun h => ?_, fun h => h ▸ decodeEnc_code x⟩
  unfold decodeEnc at h; split at h <;> cases h <;> rfl

theorem decodeFenceAxis_eq_some {n : Nat} {x : FenceAxis} : decodeFenceAxis n = some x ↔ x.code = n := by
  refine ⟨fun h => ?_, fun h => h ▸ decodeFenceAxis_code x⟩
  unfold decodeFenceAxis at h; split at h <;> cases h <;> rfl

theorem decodeMode_eq_some {n : Nat} {x : AxisMode} : decodeMode n = some x ↔ x.code = n := by
  refine ⟨fun h => ?_, fun h => h ▸ decodeMode_code x⟩
  unfold decodeMode at h; split at h <;> cases h <;> rfl

theorem decodePolicy_eq_some {n : Nat} {x : Policy} : decodePolicy n = some x ↔ x.code = n := by
  refine ⟨fun h => ?_, fun h => h ▸ decodePolicy_code x⟩
  unfold decodePolicy at h; split at h <;> cases h <;> rfl

theorem decodeFlag_eq_some {n : Nat} {x : Bool} : decodeFlag n = some x ↔ flagCode x = n := by
  refine ⟨fun h => ?_, fun h => h ▸ decodeFlag_code x⟩
  unfold decodeFlag at h; split at h <;> cases h <;> rfl

theorem decodeEdge_eq_some {n : Nat} {x : Edge} : decodeEdge n = some x ↔ x.code = n := by
  refine ⟨fun h => ?_, fun h => h ▸ decodeEdge_code x⟩
  unfold decodeEdge at h; split at h <;> cases h <;> rfl

theorem decodeCollision_eq_some {n : Nat} {x : CollisionPolicy} : decodeCollision n = some x ↔ x.code = n := by
  refine ⟨fun h => ?_, fun h => h ▸ decodeCollision_code x⟩
  unfold decodeCollision at h; split at h <;> cases h <;> rfl

theorem decodeMonitorAction_eq_some {n : Nat} {x : MonitorAction} :
    decodeMonitorAction n = some x ↔ x.code = n := by
  refine ⟨fun h => ?_, fun h => h ▸ decodeMonitorAction_code x⟩
  unfold decodeMonitorAction at h; split at h <;> cases h <;> rfl

theorem decodeThreshold_eq_some {n : Nat} {x : Threshold} : decodeThreshold n = some x ↔ x.toNat = n := by
  refine ⟨fun h => ?_, fun h => h ▸ decodeThreshold_toNat x⟩
  unfold decodeThreshold at h; split at h <;> cases h <;> rfl

theorem decodeUnit_eq_some {n : Nat} {x : WidthUnit} : decodeUnit n = some x ↔ x.code = n := by
  refine ⟨fun h => ?_, fun h => h ▸ decodeUnit_code x⟩
  unfold decodeUnit at h; split at h <;> cases h <;> rfl

theorem decodeStepAction_eq_some {n : Nat} {x : StepAction} : decodeStepAction n = some x ↔ x.code = n := by
  refine ⟨fun h => ?_, fun h => h ▸ decodeStepAction_code x⟩
  unfold decodeStepAction at h; split at h <;> cases h <;> rfl

theorem decodeCondition_eq_some {n : Nat} {x : Condition} : decodeCondition n = some x ↔ x.code = n := by
  refine ⟨fun h => ?_, fun h => h ▸ decodeCondition_code x⟩
  unfold decodeCondition at h; split at h <;> cases h <;> rfl

theorem decodeVerdict_eq_some {n : Nat} {x : Verdict} : decodeVerdict n = some x ↔ x.code = n := by
  refine ⟨fun h => ?_, fun h => h ▸ decodeVerdict_code x⟩
  unfold decodeVerdict at h; split at h <;> cases h <;> rfl

theorem decodeDetectorAction_eq_some {n : Nat} {x : DetectorAction} :
    decodeDetectorAction n = some x ↔ x.code = n := by
  refine ⟨fun h => ?_, fun h => h ▸ decodeDetectorAction_code x⟩
  unfold decodeDetectorAction at h; split at h <;> cases h <;> rfl

theorem decodeLineAction_eq_some {n : Nat} {x : LineAction} : decodeLineAction n = some x ↔ x.code = n := by
  refine ⟨fun h => ?_, fun h => h ▸ decodeLineAction_code x⟩
  unfold decodeLineAction at h; split at h <;> cases h <;> rfl

theorem decodeFenceCond_eq_some {n : Nat} {x : FenceCond} : decodeFenceCond n = some x ↔ x.code = n := by
  refine ⟨fun h => ?_, fun h => h ▸ decodeFenceCond_code x⟩
  unfold decodeFenceCond at h; split at h <;> cases h <;> rfl

/-! ### Words written back from their fields -/

theorem wordOf_bytes (w : Word) : wordOf (hiByte w).toNat (loByte w).toNat = w := by
  rw [wordOf, BitVec.ofNat_toNat, BitVec.ofNat_toNat, BitVec.setWidth_eq, BitVec.setWidth_eq, word_bytes]

theorem word_ofNat_loByte (w : Word) : word (hiByte w) (BitVec.ofNat 8 (loByte w).toNat) = w := by
  rw [BitVec.ofNat_toNat, BitVec.setWidth_eq, word_bytes]

theorem word_ofNat_hiByte (w : Word) : word (BitVec.ofNat 8 (hiByte w).toNat) (loByte w) = w := by
  rw [BitVec.ofNat_toNat, BitVec.setWidth_eq, word_bytes]

theorem ofNat_word (w : Word) : BitVec.ofNat 16 w.toNat = w := by rw [BitVec.ofNat_toNat, BitVec.setWidth_eq]

theorem extractLsb'_append_low {v w : Nat} (hi : BitVec v) (lo : BitVec w) : (hi ++ lo).extractLsb' 0 w = lo := by
  rw [BitVec.extractLsb'_append_eq_of_add_le (Nat.zero_add w).le, BitVec.extractLsb'_eq_self]

theorem extractLsb'_append_high {v w : Nat} (hi : BitVec v) (lo : BitVec w) : (hi ++ lo).extractLsb' w v = hi := by
  rw [BitVec.extractLsb'_append_eq_of_le (Nat.le_refl w), Nat.sub_self, BitVec.extractLsb'_eq_self]

theorem lowHalf_positionOf (low high : Word) : lowHalf (positionOf low high) = low := extractLsb'_append_low high low

theorem highHalf_positionOf (low high : Word) : highHalf (positionOf low high) = high :=
  extractLsb'_append_high high low

/-- A handle that is read from a word is that word (R47). -/
theorem word_of_decodeHandle {w : Word} {h : Handle} (hd : decodeHandle w = some h) : h.word = w := by
  simp only [decodeHandle, Option.map_eq_some_iff, decodeFin_eq_some] at hd
  obtain ⟨slot, hslot, rfl⟩ := hd
  have hword : Handle.word ⟨hiByte w, slot⟩ = word (hiByte w) (BitVec.ofNat 8 slot.val) := rfl
  rw [hword, hslot, word_ofNat_loByte]

/-- A byte that is read from a whole word is that word (R132). -/
theorem setWidth_of_decodeFin {w : Word} {i : Fin 256} (h : decodeFin 256 w.toNat = some i) :
    (BitVec.ofFin i : ByteField).setWidth 16 = w := by
  have hi : i.val = w.toNat := decodeFin_eq_some.1 h
  refine BitVec.eq_of_toNat_eq ?_
  rw [BitVec.toNat_setWidth, BitVec.toNat_ofFin, hi]
  exact Nat.mod_eq_of_lt w.isLt

/-! ### Steps (11.3.3) -/

/-- The words of a step are those that it was read from. -/
theorem words_of_decodeStep {ws : List Word} {st : Step} (h : decodeStep ws = some st) : st.words = ws := by
  unfold decodeStep at h
  split at h
  case h_1 w0 w1 w2 w3 w4 w5 =>
    simp only [Option.bind_eq_bind, Option.bind_eq_some_iff, decodeFin_eq_some, decodeStepAction_eq_some,
      decodeUnit_eq_some, decodeCondition_eq_some, Option.ite_none_right_eq_some, Option.some.injEq] at h
    obtain ⟨line, hline, action, haction, unit, hunit, cond, hcond, -, rfl⟩ := h
    simp only [Step.words, hline, haction, hunit, hcond, extractLsb'_append_low, extractLsb'_append_high,
      word_ofNat_hiByte, word_ofNat_loByte, wordOf_bytes]
  case h_2 => cases h

/-- The words of steps are those that they were read from, six at a time. -/
theorem words_of_decodeSteps {n : Nat} {ws : List Word} {steps : List Step} (h : decodeSteps n ws = some steps) :
    (steps.map Step.words).flatten = ws := by
  induction n generalizing ws steps with
  | zero =>
    cases ws with
    | nil => cases h; rfl
    | cons w ws => cases h
  | succ n ih =>
    cases ws with
    | nil => cases h; rfl
    | cons w ws =>
      simp only [decodeSteps] at h
      simp only [Option.bind_eq_bind, Option.bind_eq_some_iff, Option.some.injEq] at h
      obtain ⟨st, hst, rest, hrest, rfl⟩ := h
      rw [List.map_cons, List.flatten_cons, words_of_decodeStep hst, ih hrest, List.take_append_drop]

/-! ### Bodies (11.3.2) -/

section Bodies

variable {ws : List Word} {p : Packet}

theorem body_of_decode_fence (h : decodeFields .fence ws = some p) : p.kind = .fence ∧ p.body = ws := by
  match ws with
  | [w1, w2, w3, w4, w5] =>
    unfold decodeFields at h
    simp only [Option.bind_eq_bind, Option.bind_eq_some_iff, Option.some.injEq] at h
    obtain ⟨cond, hcond, axis, haxis, rfl⟩ := h
    refine ⟨rfl, ?_⟩
    simp only [Packet.body, decodeFenceCond_eq_some.1 hcond, decodeFenceAxis_eq_some.1 haxis, wordOf_bytes,
      lowHalf_positionOf, highHalf_positionOf]
  | [] | [_] | [_, _] | [_, _, _] | [_, _, _, _] | _ :: _ :: _ :: _ :: _ :: _ :: _ => cases h

theorem body_of_decode_configAxis (h : decodeFields .configAxis ws = some p) :
    p.kind = .configAxis ∧ p.body = ws := by
  match ws with
  | [w1, w2, w3] =>
    unfold decodeFields at h
    simp only [Option.bind_eq_bind, Option.bind_eq_some_iff, Option.some.injEq] at h
    obtain ⟨enc, henc, mode, hmode, policy, hpolicy, invert, hinvert, rfl⟩ := h
    refine ⟨rfl, ?_⟩
    simp only [Packet.body, decodeEnc_eq_some.1 henc, decodeMode_eq_some.1 hmode, decodePolicy_eq_some.1 hpolicy,
      decodeFlag_eq_some.1 hinvert, wordOf_bytes, ofNat_word]
  | [] | [_] | [_, _] | _ :: _ :: _ :: _ :: _ => cases h

theorem body_of_decode_presetAxis (h : decodeFields .presetAxis ws = some p) :
    p.kind = .presetAxis ∧ p.body = ws := by
  match ws with
  | [w1, w2, w3] =>
    unfold decodeFields at h
    simp only [Option.bind_eq_bind, Option.bind_eq_some_iff, Option.some.injEq] at h
    obtain ⟨enc, henc, rfl⟩ := h
    refine ⟨rfl, ?_⟩
    simp only [Packet.body, decodeEnc_eq_some.1 henc, ofNat_word, lowHalf_positionOf, highHalf_positionOf]
  | [] | [_] | [_, _] | _ :: _ :: _ :: _ :: _ => cases h

theorem body_of_decode_configDetector (h : decodeFields .configDetector ws = some p) :
    p.kind = .configDetector ∧ p.body = ws := by
  match ws with
  | [w1, w2, w3, w4] =>
    unfold decodeFields at h
    simp only [Option.bind_eq_bind, Option.bind_eq_some_iff, Option.some.injEq] at h
    obtain ⟨det, hdet, edge, hedge, recipe, hrecipe, axis, haxis, rfl⟩ := h
    refine ⟨rfl, ?_⟩
    simp only [Packet.body, decodeFin_eq_some.1 hdet, decodeEdge_eq_some.1 hedge, decodeFin_eq_some.1 hrecipe,
      decodeAxis_eq_some.1 haxis, wordOf_bytes, word_ofNat_hiByte, ofNat_word]
  | [] | [_] | [_, _] | [_, _, _] | _ :: _ :: _ :: _ :: _ :: _ => cases h

theorem body_of_decode_detectorControl (h : decodeFields .detectorControl ws = some p) :
    p.kind = .detectorControl ∧ p.body = ws := by
  match ws with
  | [w1] =>
    unfold decodeFields at h
    simp only [Option.bind_eq_bind, Option.bind_eq_some_iff, Option.some.injEq] at h
    obtain ⟨action, haction, rfl⟩ := h
    refine ⟨rfl, ?_⟩
    simp only [Packet.body, decodeDetectorAction_eq_some.1 haction, word_ofNat_hiByte]
  | [] | _ :: _ :: _ => cases h

theorem body_of_decode_configLine (h : decodeFields .configLine ws = some p) :
    p.kind = .configLine ∧ p.body = ws := by
  match ws with
  | [w1, w2, w3, w4, w5, w6, w7] =>
    unfold decodeFields at h
    simp only [Option.bind_eq_bind, Option.bind_eq_some_iff, Option.some.injEq] at h
    obtain ⟨line, hline, policy, hpolicy, reports, hreports, action, haction, enable, henable, threshold,
      hthreshold, settle, hsettle, rfl⟩ := h
    refine ⟨rfl, ?_⟩
    simp only [Packet.body, decodeFin_eq_some.1 hline, decodeCollision_eq_some.1 hpolicy,
      decodeFlag_eq_some.1 hreports, decodeMonitorAction_eq_some.1 haction, decodeFlag_eq_some.1 henable,
      decodeThreshold_eq_some.1 hthreshold, setWidth_of_decodeFin hsettle, wordOf_bytes]
  | [] | [_] | [_, _] | [_, _, _] | [_, _, _, _] | [_, _, _, _, _] | [_, _, _, _, _, _]
  | _ :: _ :: _ :: _ :: _ :: _ :: _ :: _ :: _ => cases h

theorem body_of_decode_lineControl (h : decodeFields .lineControl ws = some p) :
    p.kind = .lineControl ∧ p.body = ws := by
  match ws with
  | [w1, w2] =>
    unfold decodeFields at h
    simp only [Option.bind_eq_bind, Option.bind_eq_some_iff, Option.some.injEq] at h
    obtain ⟨action, haction, rfl⟩ := h
    refine ⟨rfl, ?_⟩
    simp only [Packet.body, decodeLineAction_eq_some.1 haction, ofNat_word]
  | [] | [_] | _ :: _ :: _ :: _ => cases h

theorem body_of_decode_writeRecipe (h : decodeFields .writeRecipe ws = some p) :
    p.kind = .writeRecipe ∧ p.body = ws := by
  match ws with
  | [w1, w2, w3] =>
    unfold decodeFields at h
    simp only [Option.bind_eq_bind, Option.bind_eq_some_iff, Option.some.injEq] at h
    obtain ⟨recipe, hrecipe, axis, haxis, first, hfirst, dflt, hdflt, rfl⟩ := h
    refine ⟨rfl, ?_⟩
    simp only [Packet.body, decodeFin_eq_some.1 hrecipe, decodeAxis_eq_some.1 haxis, decodeFin_eq_some.1 hfirst,
      decodeVerdict_eq_some.1 hdflt, wordOf_bytes, ofNat_word]
  | [] | [_] | [_, _] | _ :: _ :: _ :: _ :: _ => cases h

theorem body_of_decode_writeSteps (h : decodeFields .writeSteps ws = some p) :
    p.kind = .writeSteps ∧ p.body = ws := by
  match ws with
  | w1 :: ws =>
    unfold decodeFields at h
    simp only [Option.bind_eq_bind, Option.bind_eq_some_iff, Option.some.injEq] at h
    obtain ⟨first, hfirst, steps, hsteps, rfl⟩ := h
    refine ⟨rfl, ?_⟩
    simp only [Packet.body, decodeFin_eq_some.1 hfirst, words_of_decodeSteps hsteps, ofNat_word]
  | [] => cases h

theorem body_of_decode_injectItem (h : decodeFields .injectItem ws = some p) :
    p.kind = .injectItem ∧ p.body = ws := by
  match ws with
  | [w1, w2, w3] =>
    unfold decodeFields at h
    simp only [Option.bind_eq_bind, Option.bind_eq_some_iff, Option.some.injEq] at h
    obtain ⟨recipe, hrecipe, rfl⟩ := h
    refine ⟨rfl, ?_⟩
    simp only [Packet.body, decodeFin_eq_some.1 hrecipe, ofNat_word]
  | [] | [_] | [_, _] | _ :: _ :: _ :: _ :: _ => cases h

theorem body_of_decode_verdict (h : decodeFields .verdict ws = some p) : p.kind = .verdict ∧ p.body = ws := by
  match ws with
  | [w1, w2, w3] =>
    unfold decodeFields at h
    simp only [Option.bind_eq_bind, Option.bind_eq_some_iff, Option.some.injEq] at h
    obtain ⟨handle, hhandle, verdict, hverdict, rfl⟩ := h
    refine ⟨rfl, ?_⟩
    simp only [Packet.body, word_of_decodeHandle hhandle, decodeVerdict_eq_some.1 hverdict, ofNat_word]
  | [] | [_] | [_, _] | _ :: _ :: _ :: _ :: _ => cases h

theorem body_of_decode_cancelItem (h : decodeFields .cancelItem ws = some p) :
    p.kind = .cancelItem ∧ p.body = ws := by
  match ws with
  | [w1] =>
    unfold decodeFields at h
    simp only [Option.bind_eq_bind, Option.bind_eq_some_iff, Option.some.injEq] at h
    obtain ⟨handle, hhandle, rfl⟩ := h
    refine ⟨rfl, ?_⟩
    simp only [Packet.body, word_of_decodeHandle hhandle]
  | [] | _ :: _ :: _ => cases h

theorem body_of_decode_scheduleFire (h : decodeFields .scheduleFire ws = some p) :
    p.kind = .scheduleFire ∧ p.body = ws := by
  match ws with
  | [w1, w2, w3, w4, w5, w6, w7] =>
    unfold decodeFields at h
    simp only [Option.bind_eq_bind, Option.bind_eq_some_iff, Option.some.injEq] at h
    obtain ⟨axis, haxis, line, hline, unit, hunit, rfl⟩ := h
    refine ⟨rfl, ?_⟩
    simp only [Packet.body, decodeAxis_eq_some.1 haxis, decodeFin_eq_some.1 hline, decodeUnit_eq_some.1 hunit,
      wordOf_bytes, word_ofNat_loByte, lowHalf_positionOf, highHalf_positionOf]
  | [] | [_] | [_, _] | [_, _, _] | [_, _, _, _] | [_, _, _, _, _] | [_, _, _, _, _, _]
  | _ :: _ :: _ :: _ :: _ :: _ :: _ :: _ :: _ => cases h

/-- The fields that are read from a body are those of a packet of its kind with that body, but for PAD's, which is
not read (11.3.2). -/
theorem body_of_decodeFields {k : PacketKind} (h : decodeFields k ws = some p) :
    p.kind = k ∧ (k ≠ .pad → p.body = ws) := by
  have hread : k ≠ .pad → p.kind = k ∧ p.body = ws := fun hpad => by
    cases k with
    | pad => exact absurd rfl hpad
    | mark | cancelTag =>
      match ws with
      | [tag] => cases h; exact ⟨rfl, rfl⟩
      | [] | _ :: _ :: _ => cases h
    | copyBank | switchBank =>
      match ws with
      | [] => cases h; exact ⟨rfl, rfl⟩
      | _ :: _ => cases h
    | fence => exact body_of_decode_fence h
    | configAxis => exact body_of_decode_configAxis h
    | presetAxis => exact body_of_decode_presetAxis h
    | configDetector => exact body_of_decode_configDetector h
    | detectorControl => exact body_of_decode_detectorControl h
    | configLine => exact body_of_decode_configLine h
    | lineControl => exact body_of_decode_lineControl h
    | writeRecipe => exact body_of_decode_writeRecipe h
    | writeSteps => exact body_of_decode_writeSteps h
    | injectItem => exact body_of_decode_injectItem h
    | verdict => exact body_of_decode_verdict h
    | cancelItem => exact body_of_decode_cancelItem h
    | scheduleFire => exact body_of_decode_scheduleFire h
  by_cases hpad : k = .pad
  · subst hpad; cases h; exact ⟨rfl, fun h => absurd rfl h⟩
  · exact ⟨(hread hpad).1, fun _ => (hread hpad).2⟩

end Bodies

/-- A body that passes the field checks is that of a well-formed packet of its kind, but for PAD's, which is not
read (R173, R207). -/
theorem body_of_decodeBody {k : PacketKind} {ws : List Word} {p : Packet} (h : decodeBody k ws = some p) :
    p.kind = k ∧ (k ≠ .pad → p.body = ws) := by
  unfold decodeBody at h
  split at h
  · split at h <;> cases h
    exact body_of_decodeFields ‹_›
  · cases h

end Sys2Proof
end

section
/-!
The event that takes a packet, for all eighteen kinds at once: each packet row is the field checks, then the owner's
work and the advance of read (R173 to R176); and what the parser's own packets do (R180 to R185).
-/
namespace Sys2Proof

theorem Packet.row_mem_rows (p : Packet) : p.row ∈ p.kind.rows := by
  cases p
  case detectorControl mask a => cases a <;> simp [Packet.row, Packet.kind, PacketKind.rows]
  case lineControl mask a => cases a <;> simp [Packet.row, Packet.kind, PacketKind.rows]
  all_goals exact List.mem_singleton.2 rfl

/-- The kind and the length that a header names (11.3). -/
theorem headerOf_of_code {w : Word} {k : PacketKind} (h : w.toNat / 256 = k.code) :
    headerOf w = some (k, w.toNat % 256) := by
  rw [headerOf, hiByte_toNat, h, decodeKind_code, headerLength, loByte_toNat]
  rfl

namespace Machine

/-! ### Every well-formed packet is read back (R207) -/

/-- A well-formed packet is read back from its body, whatever its kind. -/
theorem decodeBody_of_wf {p : Packet} (h : p.wf = true) : decodeBody p.kind p.body = some p := by
  cases p with
  | pad n =>
    have hlength : (List.replicate n (0 : Word)).length = n := List.length_replicate
    have hf : decodeFields .pad (Packet.pad n).body = some (.pad n) := congrArg (fun m => some (Packet.pad m)) hlength
    simp only [decodeBody, Packet.kind, hf, h, if_true]
  | fence f =>
    have hcond : f.cond.code % 2 ^ 8 = f.cond.code := by cases f.cond <;> rfl
    have haxis : f.axis.code % 2 ^ 8 = f.axis.code := by rcases f.axis with (_ | _ | _) | _ <;> rfl
    have hf : decodeFields .fence (Packet.fence f).body = some (.fence f) := by
      unfold decodeFields
      simp only [Packet.body, wordOf, loByte_word, hiByte_word, BitVec.toNat_ofNat, hcond, haxis,
        decodeFenceCond_code, decodeFenceAxis_code, positionOf_halves, Option.bind_eq_bind, Option.bind_some]
    simp only [decodeBody, Packet.kind, hf, h, if_true]
  | mark tag | cancelTag tag | copyBank | switchBank => rfl
  | configAxis enc c => exact decodeBody_configAxis h
  | presetAxis enc q => exact decodeBody_presetAxis enc q
  | configDetector n c => exact decodeBody_configDetector n c
  | detectorControl mask a => exact decodeBody_detectorControl mask a
  | configLine n c m => exact decodeBody_configLine n c m
  | lineControl mask a => exact decodeBody_lineControl mask a
  | writeRecipe r hd => exact decodeBody_writeRecipe h
  | writeSteps first steps => exact decodeBody_writeSteps h
  | injectItem r backdate tag => exact decodeBody_injectItem r backdate tag
  | verdict hd v tag => exact decodeBody_verdict hd v tag
  | cancelItem hd => exact decodeBody_cancelItem hd
  | scheduleFire f => exact decodeBody_scheduleFire h

/-! ### The packet rows (R173) -/

/-- The work of a packet's owner (R173). A PAD and a FENCE are the parser's own and leave the part to it. -/
def State.carryOut (s : State) : Packet → State
  | .pad _ => s
  | .fence _ => s
  | .mark tag => s.offer (markReport tag s.t)
  | .configAxis enc c => s.configAxis enc c
  | .presetAxis enc q => s.presetAxis enc q
  | .configDetector n c => s.configDetector n c
  | .detectorControl mask .enable => s.forDetectors mask State.enableDetector
  | .detectorControl mask .disable => s.forDetectors mask State.disableDetector
  | .configLine n c m => s.configLine n c m
  | .lineControl mask a => s.forLines mask (State.actOnLine a)
  | .writeRecipe r h => s.writeRecipe r h
  | .writeSteps first steps => s.writeSteps first steps
  | .copyBank => s.copyBank
  | .switchBank => s.switchBank
  | .injectItem r backdate tag => s.injectItem r backdate tag
  | .verdict h v tag => s.verdict h v tag
  | .cancelItem h => s.cancelItem h
  | .scheduleFire f => s.scheduleFire f
  | .cancelTag tag => s.cancelTag tag

/-- The event that takes a packet with `len` body words: the owner's work and the advance of read, but for a FENCE,
which the parser may hold (R173, R182). -/
def State.takePacket (s : State) (len : Nat) : Packet → State
  | .fence f => s.takeFence f len
  | p => (s.carryOut p).passPacket len

theorem State.takePacket_of_ne_fence (s : State) (len : Nat) {p : Packet} (h : p.kind ≠ .fence) :
    s.takePacket len p = (s.carryOut p).passPacket len := by
  cases p with
  | fence f => exact absurd rfl h
  | _ => rfl

/-- The owner's part of the event matters for the packets of the row's kind alone. -/
theorem State.onPacket_congr {s : State} {k : PacketKind} {f g : Nat → Packet → State}
    (h : ∀ len p, p.kind = k → f len p = g len p) : s.onPacket k f = s.onPacket k g := by
  unfold State.onPacket
  split
  · split
    · rename_i hk
      subst hk
      split
      · exact h _ _ (body_of_decodeBody ‹_›).1
      · rfl
    · rfl
  · rfl

/-- Each packet row takes the packets that are its own, and does nothing on another packet of its kind (R173). -/
theorem exec_packetRow {k : PacketKind} {c : Instr} (h : c ∈ k.rows) (s : State) :
    exec c s = .next (s.onPacket k fun len p => if p.row = c then s.takePacket len p else s) := by
  cases k
  case detectorControl =>
    rcases List.mem_pair.1 h with rfl | rfl
    all_goals
      refine congrArg Host.Outcome.next (State.onPacket_congr fun len p hp => ?_)
      cases p <;> cases hp
      rename_i a
      cases a <;> rfl
  case lineControl =>
    simp only [PacketKind.rows, List.mem_cons, List.not_mem_nil, or_false] at h
    rcases h with rfl | rfl | rfl | rfl
    all_goals
      refine congrArg Host.Outcome.next (State.onPacket_congr fun len p hp => ?_)
      cases p <;> cases hp
      rename_i a
      cases a <;> rfl
  all_goals
    obtain rfl := List.mem_singleton.1 h
    refine congrArg Host.Outcome.next (State.onPacket_congr fun len p hp => ?_)
    cases p <;> cases hp
    rfl

/-- A ready packet is taken by its own row (R173). -/
theorem exec_ready {s : State} {p : Packet} (h : s.PacketReady p) :
    exec p.row s = .next (s.takePacket p.body.length p) := by
  rw [exec_packetRow p.row_mem_rows, State.onPacket_ready h (decodeBody_of_wf h.1), if_pos rfl]

/-- No packet row has an effect while the parser keeps no header (R170). -/
theorem exec_packetRow_idle {s : State} {k : PacketKind} {c : Instr} (hc : c ∈ k.rows)
    (h : ∀ w, s.parser.state ≠ .running (some w)) : exec c s = .next s := by
  rw [exec_packetRow hc, State.onPacket, State.completePacket_eq_none h]

/-! ### The owners leave the ring and the parser (R173, R174) -/

theorem State.SameRing.refl (s : State) : s.SameRing s := ⟨rfl, rfl⟩

theorem State.setEncAxis_sameRing (s : State) (enc : Enc) (a : EncAxis) : s.SameRing (s.setEncAxis enc a) :=
  ⟨s.setEncAxis_ring enc a, s.setEncAxis_parser enc a⟩

theorem State.configAxis_sameRing (s : State) (enc : Enc) (c : AxisSettings) : s.SameRing (s.configAxis enc c) := by
  unfold State.configAxis; dsimp only; repeat' split
  · exact .refl s
  · exact s.setEncAxis_sameRing enc _
  · exact (s.offer_outside _).toSameRing

theorem State.presetAxis_sameRing (s : State) (enc : Enc) (p : Pos) : s.SameRing (s.presetAxis enc p) := by
  unfold State.presetAxis; dsimp only; split
  · exact (s.offer_outside _).toSameRing
  · exact s.setEncAxis_sameRing enc _

theorem State.setStaging_sameRing (s : State) (b : Bank) : s.SameRing (s.setStaging b) :=
  ⟨s.setBank_ring _ b, s.setBank_parser _ b⟩

theorem State.switchBank_sameRing (s : State) : s.SameRing s.switchBank := by
  unfold State.switchBank; split <;> exact ⟨rfl, rfl⟩

theorem State.actOnLine_outside (a : LineAction) (s : State) (n : Fin 16) : s.SameOutside (s.actOnLine a n) := by
  cases a with
  | arm => exact s.armLine_outside n
  | disarm => exact s.disarmLine_outside n
  | clearFault => exact s.clearLineFault_outside n
  | forceOff => exact s.forceLineOff_outside n

/-- No owner touches the ring or the parser: the parser alone moves read (R173). -/
theorem State.carryOut_sameRing (s : State) (p : Packet) : s.SameRing (s.carryOut p) := by
  cases p with
  | pad | fence => exact .refl s
  | mark tag => exact (s.offer_outside _).toSameRing
  | configAxis enc c => exact s.configAxis_sameRing enc c
  | presetAxis enc q => exact s.presetAxis_sameRing enc q
  | configDetector n c => exact (s.configDetector_outside n c).toSameRing
  | detectorControl mask a =>
    cases a with
    | enable => exact (s.forDetectors_outside mask State.enableDetector_outside).toSameRing
    | disable => exact (s.forDetectors_outside mask fun t n => t.setDet_outside n _).toSameRing
  | configLine n c m => exact (s.configLine_outside n c m).toSameRing
  | lineControl mask a => exact (s.forLines_outside mask (State.actOnLine_outside a)).toSameRing
  | writeRecipe | writeSteps | copyBank => exact s.setStaging_sameRing _
  | switchBank => exact s.switchBank_sameRing
  | injectItem r backdate tag => exact (s.injectItem_outside r backdate tag).toSameRing
  | verdict h v tag => exact (s.verdict_outside h v tag).toSameRing
  | cancelItem h => exact (s.cancelItem_outside h).toSameRing
  | scheduleFire f => exact (s.scheduleFire_outside f).toSameRing
  | cancelTag tag => exact (s.cancelTag_outside tag).toSameRing

/-- The advance past a packet acts on the ring and the parser alone (R173). -/
theorem State.SameRing.passPacket {s t : State} (h : s.SameRing t) (len : Nat) :
    (s.passPacket len).SameRing (t.passPacket len) := by
  constructor
  · rw [State.passPacket_ring, State.passPacket_ring, h.ring]
  · rw [State.passPacket_parser, State.passPacket_parser, h.parser]

/-! ### BAD_FIELD (R173, R175) -/

/-- Settles O26: a body that the field checks accept would be that of a well-formed packet. -/
theorem badFieldHalts : Obligations.BadFieldHalts := by
  intro s w k c hstate hcode hpad hcomplete hbody hc
  have hpacket : s.completePacket = some (k, w.toNat % 256) := by
    simp only [State.completePacket, hstate, headerOf_of_code hcode, hcomplete, if_true]
  have hnone : decodeBody k (s.bodyWords (w.toNat % 256)) = none := by
    refine Option.eq_none_iff_forall_ne_some.2 fun p hp => ?_
    obtain ⟨hkind, hwords⟩ := body_of_decodeBody hp
    exact hbody p (decodeBody_wf hp) hkind (hwords hpad)
  rw [exec_packetRow hc]
  simp only [State.onPacket, hpacket, hnone, if_true]
  rfl

/-! ### Packets that are consumed (R173, R174, R180, R181) -/

/-- Settles O27: the owner leaves the ring and the parser alone, and the advance of read follows. -/
theorem takenPacketsAreConsumed : Obligations.TakenPacketsAreConsumed := by
  intro s p h hkind
  have howner := s.carryOut_sameRing p
  have hpublished : 1 + p.body.length ≤ s.ring.published := by
    have := h.2.2.1
    rwa [Packet.words, List.length_cons, Nat.add_comm] at this
  refine ⟨(s.carryOut p).passPacket p.body.length, ?_, ?_, ?_, fun hpath => ?_⟩
  · rw [exec_ready h, State.takePacket_of_ne_fence s _ hkind]
  · exact (howner.passPacket _).ring
  · exact (howner.passPacket _).parser
  · rw [(howner.passPacket _).ring]
    exact hpath.free_advance hpublished

/-- Settles O28: PAD is read from any body of its length, and MARK's owner offers its record. -/
theorem padAndMarkAreTaken : Obligations.PadAndMarkAreTaken := by
  refine ⟨fun s n hstate hn hpublished => ?_, fun s tag h => exec_ready h⟩
  have hwf : (Packet.pad n).wf = true := decide_eq_true hn
  have hlength : (Packet.pad n).body.length = n := List.length_replicate
  have hpacket : s.completePacket = some (.pad, n) := by
    have hheader : headerOf (Packet.pad n).header = some (.pad, n) := by rw [headerOf_header hwf, hlength]; rfl
    simp only [State.completePacket, hstate, hheader, hpublished, if_true]
  have hbody : decodeBody .pad (s.bodyWords n) = some (.pad n) := by
    have hf : decodeFields .pad (s.bodyWords n) = some (.pad n) :=
      congrArg (fun m => some (Packet.pad m)) (s.bodyWords_length n)
    simp only [decodeBody, hf, hwf, if_true]
  refine (exec_packetRow (Packet.pad n).row_mem_rows s).trans ?_
  simp only [State.onPacket, Packet.kind, hpacket, hbody, if_true]
  rfl

/-! ### Fences (R182, R183, R185) -/

/-- The parser's test of a fence is the table of R182. -/
theorem State.fenceHolds_iff (s : State) (f : FenceFields) : s.fenceHolds f = true ↔ Claims.FenceHolds s f := by
  obtain ⟨cond, axis, position, mask, timeout⟩ := f
  cases cond with
  | axisReached =>
    cases axis with
    | one ax => exact reached_iff _ _
    | all => exact iff_of_false Bool.false_ne_true not_false
  | itemsEmpty => exact decide_eq_true_iff.trans s.itemsInUse_eq_zero
  | scheduleEmpty =>
    cases axis with
    | one ax => exact List.isEmpty_iff
    | all =>
      simp only [State.fenceHolds, State.listsEmpty, Claims.FenceHolds, Bool.and_eq_true, List.isEmpty_iff, and_assoc]
  | linesIdle =>
    simp only [State.fenceHolds, Claims.FenceHolds, allLines, List.all_eq_true, List.mem_finRange, forall_const,
      Bool.not_eq_true', Bool.and_eq_false_imp]
    refine forall_congr' fun n => imp_congr_right fun _ => ?_
    unfold Line.busy
    cases (s.line n).state <;> simp

/-- The record of a FENCE taken now, with its expiry tick when it has a timeout (R182). -/
theorem FenceRecord.of_eq (f : FenceFields) (t : Pos) :
    FenceRecord.of f t =
      { fields := f, expiry := if 1 ≤ f.timeout.toNat then some (t + f.timeout.setWidth 32) else none } := by
  have hzero : f.timeout = 0 ↔ ¬ 1 ≤ f.timeout.toNat := by bv_omega
  by_cases h : 1 ≤ f.timeout.toNat
  · rw [FenceRecord.of, if_pos h, if_neg fun h0 => hzero.1 h0 h]
  · rw [FenceRecord.of, if_neg h, if_pos (hzero.2 h)]

/-- Settles O29: the test of the condition, and a FENCED parser that keeps no header. -/
theorem fencePassesOrHolds : Obligations.FencePassesOrHolds := by
  refine ⟨fun s f h => ⟨fun hholds => ?passes, fun hholds => ?holds⟩, fun s r p hstate => ⟨?packet, ?header⟩⟩
  case passes =>
    rw [← s.fenceHolds_iff] at hholds
    exact (exec_ready h).trans (congrArg Host.Outcome.next (if_pos hholds))
  case holds =>
    rw [← s.fenceHolds_iff] at hholds
    refine (exec_ready h).trans (congrArg Host.Outcome.next ((if_neg hholds).trans ?_))
    rw [FenceRecord.of_eq]; rfl
  case packet => exact exec_packetRow_idle p.row_mem_rows fun w => by rw [hstate]; nofun
  case header =>
    refine congrArg Host.Outcome.next ?_
    simp only [State.takeHeader, hstate]

/-- Settles O30: the notice tests the condition, the expiry tick the exception of R185 and then the timeout. -/
theorem fenceNoticeAndTimeout : Obligations.FenceNoticeAndTimeout := by
  intro s r hstate
  have hnotice : s.fenceNotice = if s.fenceHolds r.fields then s.passPacket fenceLength else s := by
    simp only [State.fenceNotice, hstate]
  have htimeout : s.fenceTimeout =
      if r.expiry = some s.t then
        if r.fields.cond = .axisReached ∧ r.fields.axis = .one .t ∧ s.fenceHolds r.fields = true then
          s.passPacket fenceLength
        else (s.offer (fenceTimeoutReport s.ring.read r.fields s.t)).passPacket fenceLength
      else s := by
    simp only [State.fenceTimeout, hstate]
  have honT : r.fields.cond = .axisReached → r.fields.axis = .one .t →
      s.fenceHolds r.fields = reached s.t r.fields.position := fun hcond haxis => by
    simp only [State.fenceHolds, hcond, haxis]; rfl
  simp only [← State.fenceHolds_iff]
  refine ⟨fun h => congrArg Host.Outcome.next (hnotice.trans (if_pos h)),
    fun h => congrArg Host.Outcome.next (hnotice.trans (if_neg h)),
    fun h => congrArg Host.Outcome.next (htimeout.trans (if_neg h)),
    fun hdue hcond haxis hreached => congrArg Host.Outcome.next (htimeout.trans ?passes),
    fun hdue h => congrArg Host.Outcome.next (htimeout.trans ?timesOut)⟩
  case passes => rw [if_pos hdue, if_pos ⟨hcond, haxis, (honT hcond haxis).trans hreached⟩]; rfl
  case timesOut =>
    rw [if_pos hdue, if_neg]
    · rfl
    · rintro ⟨hcond, haxis, hholds⟩
      rw [honT hcond haxis] at hholds
      rcases h with h | h | h
      · exact h hcond
      · exact h haxis
      · rw [h] at hholds; cases hholds

end Machine
end Sys2Proof
end

section
/-!
The ring and the parser under every command: what each row makes of the indexes, of the words and of the parser's
state, and with it the rest of the parser and the published words (R163, R170, R171, R175).
-/
namespace Sys2Proof

/-- The kind of the packets that a row takes, if the row is one of the parser's packet rows. -/
def Instr.packetKind : Instr → Option PacketKind
  | .pad => some .pad
  | .mark => some .mark
  | .fence => some .fence
  | .configAxis => some .configAxis
  | .presetAxis => some .presetAxis
  | .configDetector => some .configDetector
  | .enable | .disable => some .detectorControl
  | .configLine => some .configLine
  | .arm | .disarm | .clearFault | .forceOff => some .lineControl
  | .writeRecipe => some .writeRecipe
  | .writeSteps => some .writeSteps
  | .copyBank => some .copyBank
  | .switchBank => some .switchBank
  | .injectItem => some .injectItem
  | .verdict => some .verdict
  | .cancelItem => some .cancelItem
  | .scheduleFire => some .scheduleFire
  | .cancelTag => some .cancelTag
  | _ => none

theorem Instr.mem_rows_of_packetKind {c : Instr} {k : PacketKind} (h : c.packetKind = some k) : c ∈ k.rows := by
  cases c <;> cases h <;> simp [PacketKind.rows]

namespace Machine

variable {s t u : State}

/-! ### The frame of the ring and the parser -/

theorem State.SameRing.trans (h : s.SameRing t) (k : t.SameRing u) : s.SameRing u :=
  ⟨k.ring.trans h.ring, k.parser.trans h.parser⟩

theorem State.SameRing.setParser (h : s.SameRing t) (st : ParserState) : (s.setParser st).SameRing (t.setParser st) :=
  ⟨h.ring, by rw [State.setParser_parser, State.setParser_parser, h.parser]⟩

theorem State.SameRing.ringWord (h : s.SameRing t) (i : RingIndex) : t.ringWord i = s.ringWord i := by
  rw [State.ringWord, h.ring]; rfl

/-! ### What the announced events make of a fence (R183 to R185) -/

/-- What an event other than the parser's own makes of the ring and the parser: nothing, the end of a fence with read
past it, or a fence that waits for another position (R183, R184, R185). -/
inductive State.FenceChange (s t : State) : Prop
  | same (frame : s.SameRing t)
  | ended (r : FenceRecord) (fenced : s.parser.state = .fenced r) (frame : (s.passPacket fenceLength).SameRing t)
  | moved (r r' : FenceRecord) (fenced : s.parser.state = .fenced r) (frame : (s.setParser (.fenced r')).SameRing t)

/-- A fence ends once: after that the parser holds none, and until then it is the fence at read (R183). -/
theorem State.FenceChange.trans (h : s.FenceChange t) (k : t.FenceChange u) : s.FenceChange u := by
  cases h with
  | same hst =>
    cases k with
    | same htu => exact .same (hst.trans htu)
    | ended r hr htu => exact .ended r (hst.parser ▸ hr) ((hst.passPacket _).trans htu)
    | moved r r' hr htu => exact .moved r r' (hst.parser ▸ hr) ((hst.setParser _).trans htu)
  | ended r hr hst =>
    have hrunning : t.parser.state = .running none := congrArg Parser.state hst.parser
    cases k with
    | same htu => exact .ended r hr (hst.trans htu)
    | ended r' hr' _ => rw [hrunning] at hr'; cases hr'
    | moved r' _ hr' _ => rw [hrunning] at hr'; cases hr'
  | moved r r' hr hst =>
    cases k with
    | same htu => exact .moved r r' hr (hst.trans htu)
    | ended _ _ htu => exact .ended r hr ((hst.passPacket _).trans htu)
    | moved _ r'' _ htu => exact .moved r r'' hr ((hst.setParser _).trans htu)

theorem State.FenceChange.of_outside (h : s.SameOutside t) : s.FenceChange t := .same h.toSameRing

variable (s)

theorem State.fenceNotice_fenceChange : s.FenceChange s.fenceNotice := by
  unfold State.fenceNotice
  split
  · split
    · exact .ended _ ‹_› (.refl _)
    · exact .same (.refl s)
  · exact .same (.refl s)

theorem State.fenceTimeout_fenceChange : s.FenceChange s.fenceTimeout := by
  unfold State.fenceTimeout
  split
  · split
    · split
      · exact .ended _ ‹_› (.refl _)
      · exact .ended _ ‹_› ((s.offer_outside _).toSameRing.passPacket _)
    · exact .same (.refl s)
  · exact .same (.refl s)

theorem State.lockoutEndOn_outside (ax : Axis) (n : Fin 8) : s.SameOutside (s.lockoutEndOn ax n) := by
  unfold State.lockoutEndOn; split
  exacts [s.lockoutEnd_outside n, .refl s]

theorem State.pulseEndOn_outside (enc : Enc) (n : Fin 16) : s.SameOutside (s.pulseEndOn enc n) := by
  unfold State.pulseEndOn; repeat' split
  exacts [s.pulseEnd_outside n, .refl s, .refl s]

theorem State.settleAxis_fenceChange (enc : Enc) : s.FenceChange (s.settleAxis enc) := by
  have houtside := State.FenceChange.of_outside (((s.passEvent_outside enc.axis).trans
    (State.eachDetector_outside _ (fun t => t.lockoutEndOn_outside enc.axis))).trans
      (State.eachLine_outside _ fun t => t.pulseEndOn_outside enc))
  unfold State.settleAxis; dsimp only; split
  · exact houtside.trans (State.fenceNotice_fenceChange _)
  · exact houtside

theorem State.settleAll_fenceChange : s.FenceChange s.settleAll := by
  have hpasses := ((s.passEvent_outside .t).trans (State.passEvent_outside _ .e1)).trans
    (State.passEvent_outside _ .e2)
  have hdets := (hpasses.trans (State.eachDetector_outside _ State.qualificationComplete_outside)).trans
    (State.eachDetector_outside _ State.lockoutEnd_outside)
  have hlines := (((hdets.trans (State.eachLine_outside _ State.pulseEnd_outside)).trans
    (State.eachLine_outside _ State.maxOnExpiry_outside)).trans
      (State.eachLine_outside _ State.recoveryEnd_outside)).trans
        (State.eachLine_outside _ State.monitorSample_outside)
  exact ((State.FenceChange.of_outside hlines).trans (State.fenceNotice_fenceChange _)).trans
    (State.fenceTimeout_fenceChange _)

theorem State.tick_fenceChange (fb : Word) : s.FenceChange (s.tick fb) := by
  refine s.settleAll_fenceChange.trans ?_
  unfold State.tick
  generalize s.settleAll = u
  exact .same ⟨rfl, rfl⟩

theorem State.advance_fenceChange (enc : Enc) : s.FenceChange (s.advance enc) :=
  (s.settleAxis_fenceChange enc).trans (.same (State.setEncAxis_sameRing _ enc _))

/-- A backward change moves the position of a fence on its axis and nothing else of the parser (R184). -/
theorem State.keepEndsAhead_fenceChange (enc : Enc) (p : Pos) : s.FenceChange (s.keepEndsAhead enc p) := by
  have hparser : (s.keepEndsAhead enc p).parser = s.parser.backward enc.axis p := rfl
  unfold Parser.backward at hparser
  split at hparser
  · split at hparser
    · exact .moved _ _ ‹_› ⟨rfl, hparser⟩
    · exact .same ⟨rfl, hparser⟩
  · exact .same ⟨rfl, hparser⟩

theorem State.backwardChange_fenceChange (enc : Enc) : s.FenceChange (s.backwardChange enc) := by
  rw [State.backwardChange_eq rfl]
  exact (((s.settleAxis_fenceChange enc).trans (.same (State.setEncAxis_sameRing _ enc _))).trans
    (State.keepEndsAhead_fenceChange _ enc _)).trans
      (.of_outside ((State.expire_outside _ _ _).trans (State.engineNotice_outside _ _)))

theorem State.quadTransition_fenceChange (enc : Enc) (ph : Phases) : s.FenceChange (s.quadTransition enc ph) := by
  have hset := fun a => State.FenceChange.same (s.setEncAxis_sameRing enc a)
  rcases State.quadTransition_cases (s := s) (enc := enc) rfl ph with ⟨-, h⟩ | ⟨-, h⟩ | ⟨-, h⟩ <;> rw [h]
  · exact (hset _).trans (.same ⟨rfl, rfl⟩)
  · exact (hset _).trans (State.advance_fenceChange _ enc)
  · exact (hset _).trans (State.backwardChange_fenceChange _ enc)

/-! ### All that a command makes of the ring and the parser -/

variable {s}

/-- What a command other than HARDWARE_RESET makes of the ring and the parser. -/
inductive State.RingChange (s t : State) : Prop
  /-- Nothing, or an event on a fence that the parser holds. -/
  | fence (change : s.FenceChange t)
  /-- A complete packet is passed (R173). -/
  | consumed (len : Nat) (complete : 1 + len ≤ s.ring.published) (frame : (s.passPacket len).SameRing t)
  /-- A complete FENCE is held (R182). -/
  | held (r : FenceRecord) (complete : 1 + fenceLength ≤ s.ring.published)
    (frame : (s.setParser (.fenced r)).SameRing t)
  /-- A format error (R175). -/
  | halted (code : HaltCode) (failed : code ≠ .none) (frame : (s.halt code).SameRing t)
  /-- The header at read is kept (R171). -/
  | kept (published : 0 < s.ring.published) (passes : headerPasses (s.ringWord s.ring.read) s.ring.read = true)
    (frame : (s.setParser (.running (some (s.ringWord s.ring.read)))).SameRing t)
  /-- START_PARSER (R177). -/
  | started (frame : (s.setParser (.running none)).SameRing t)
  /-- STOP_PARSER (R178). -/
  | stopped (frame : (s.setParser .stopped).SameRing t)
  /-- RING_RESET and ENGINE_RESET (R179, R187). -/
  | cleared (frame : s.ringReset.SameRing t)
  /-- A resync that is accepted (R168). -/
  | resynced (w : Word) (accepted : s.resyncAccepted w = true) (frame : (s.resync w).SameRing t)
  /-- RING_DATA with free space left (R164). -/
  | stored (w : Word) (free : s.ring.free ≠ 0) (frame : (s.ringData w).SameRing t)
  /-- RING_PUBLISH (R165). -/
  | published (frame : s.ringPublish.SameRing t)
  /-- RING_WITHDRAW (R166). -/
  | withdrawn (frame : s.ringWithdraw.SameRing t)

theorem State.RingChange.same (h : s.SameRing t) : s.RingChange t := .fence (.same h)

theorem State.RingChange.of_outside (h : s.SameOutside t) : s.RingChange t := .same h.toSameRing

/-! ### The packet rows (R173) -/

/-- A packet stands complete with all of its words published (R172). -/
theorem State.published_of_completePacket {k : PacketKind} {len : Nat} (h : s.completePacket = some (k, len)) :
    1 + len ≤ s.ring.published := by
  unfold State.completePacket at h
  split at h
  · split at h
    · split at h <;> cases h
      assumption
    · cases h
  · cases h

/-- The event that takes a packet passes it, or holds the parser on a FENCE (R173, R182). -/
theorem State.takePacket_ringChange {len : Nat} {p : Packet} (hcomplete : 1 + len ≤ s.ring.published)
    (hbody : decodeBody p.kind (s.bodyWords len) = some p) : s.RingChange (s.takePacket len p) := by
  by_cases hkind : p.kind = .fence
  · cases p with
    | fence f =>
      have hlen : fenceLength = len :=
        (congrArg List.length ((body_of_decodeBody hbody).2 nofun)).trans (s.bodyWords_length len)
      show s.RingChange (s.takeFence f len)
      unfold State.takeFence
      split
      · exact .consumed len hcomplete (.refl _)
      · exact .held _ (hlen ▸ hcomplete) (.refl _)
    | _ => cases hkind
  · rw [State.takePacket_of_ne_fence s len hkind]
    exact .consumed len hcomplete ((s.carryOut_sameRing p).passPacket len)

theorem exec_packetRow_ringChange {c : Instr} {k : PacketKind} (hc : c ∈ k.rows) (h : exec c s = .next t) :
    s.RingChange t := by
  rw [exec_packetRow hc, Host.Outcome.next.injEq] at h
  subst h
  rcases s.onPacket_cases k (fun len p => if p.row = c then s.takePacket len p else s) with
    h | ⟨len, -, -, h⟩ | ⟨len, p, hcomplete, hbody, h⟩ <;> rw [h]
  · exact .same (.refl s)
  · exact .halted .badField (by decide) (.refl _)
  · split
    · have hkind := (body_of_decodeBody hbody).1
      subst hkind
      exact State.takePacket_ringChange (State.published_of_completePacket hcomplete) hbody
    · exact .same (.refl s)

/-! ### The parser's own events and the registers (R164 to R168, R171, R177 to R179) -/

theorem decodeHeader_error_ne_none {w : Word} {i : RingIndex} {code : HaltCode}
    (h : decodeHeader w i = .error code) : code ≠ .none := by
  unfold decodeHeader at h
  repeat' split at h
  all_goals cases h
  all_goals decide

theorem State.takeHeader_ringChange (s : State) : s.RingChange s.takeHeader := by
  unfold State.takeHeader
  split
  · split
    · rename_i hpublished
      dsimp only
      split
      · rename_i hok
        exact .kept hpublished (by rw [headerPasses, hok]) (.refl _)
      · exact .halted _ (decodeHeader_error_ne_none ‹_›) (.refl _)
    · exact .same (.refl s)
  · exact .same (.refl s)

theorem State.command_ringChange (s : State) (c : Command) : s.RingChange (s.command c) := by
  cases c with
  | startParser =>
    show s.RingChange s.startParser
    unfold State.startParser; split
    exacts [.started (.refl _), .started (.refl _), .same (.refl s), .same (.refl s)]
  | stopParser =>
    show s.RingChange s.stopParser
    unfold State.stopParser; split
    exacts [.stopped (.refl _), .stopped (.refl _), .same (.refl s), .same (.refl s)]
  | ringReset => exact .cleared (.refl _)
  | quiesce => exact .of_outside s.quiesce_outside
  | resume => exact .same ⟨rfl, rfl⟩
  | engineReset => exact .cleared ⟨rfl, rfl⟩

theorem State.ringData_ringChange (s : State) (w : Word) : s.RingChange (s.ringData w) := by
  by_cases h : s.ring.free = 0
  · rw [State.ringData_full h]; exact .same ⟨rfl, rfl⟩
  · exact .stored w h (.refl _)

theorem State.resync_ringChange (s : State) (w : Word) : s.RingChange (s.resync w) := by
  by_cases h : s.resyncAccepted w = true
  · exact .resynced w h (.refl _)
  · rw [State.resync_ignored h]; exact .same (.refl s)

theorem State.irqStatusWrite_sameRing (s : State) (w : Word) : s.SameRing (s.irqStatusWrite w) := by
  unfold State.irqStatusWrite; split <;> exact ⟨rfl, rfl⟩

theorem State.watermarkWrite_sameRing (s : State) (w : Word) : s.SameRing (s.watermarkWrite w) := by
  unfold State.watermarkWrite; split <;> exact ⟨rfl, rfl⟩

theorem State.spaceLevelWrite_sameRing (s : State) (w : Word) : s.SameRing (s.spaceLevelWrite w) := by
  unfold State.spaceLevelWrite; split <;> exact ⟨rfl, rfl⟩

theorem State.posSelectWrite_sameRing (s : State) (w : Word) : s.SameRing (s.posSelectWrite w) := by
  unfold State.posSelectWrite; split <;> exact ⟨rfl, rfl⟩

theorem State.lineSelectWrite_sameRing (s : State) (w : Word) : s.SameRing (s.lineSelectWrite w) := by
  unfold State.lineSelectWrite; split <;> exact ⟨rfl, rfl⟩

theorem State.busWrite_ringChange (s : State) (offset : BitVec 5) (w : Word) : s.RingChange (s.busWrite offset w) := by
  unfold State.busWrite; split
  · split
    · exact s.command_ringChange _
    · exact .same (.refl s)
  · exact s.ringData_ringChange w
  · exact .published (.refl _)
  · exact .withdrawn (.refl _)
  · exact s.resync_ringChange w
  · exact .same (s.spaceLevelWrite_sameRing w)
  · exact .same (s.irqStatusWrite_sameRing w)
  · exact .same ⟨rfl, rfl⟩
  · exact .same (s.watermarkWrite_sameRing w)
  · exact .same ⟨rfl, rfl⟩
  · exact .same (s.posSelectWrite_sameRing w)
  · exact .same (s.lineSelectWrite_sameRing w)
  · exact .same (.refl s)

/-! ### Rows -/

/-- The rows that take no packet make one of these changes, HARDWARE_RESET apart. -/
theorem exec_ringChange_of_no_packet {c : Instr} (h : exec c s = .next t)
    (hc : ∀ p q di fb, c ≠ .hardwareReset p q di fb) (hk : c.packetKind = none) : s.RingChange t := by
  cases c
  case hardwareReset p q di fb => exact absurd rfl (hc p q di fb)
  case pad | mark | fence | configAxis | presetAxis | configDetector | enable | disable | configLine | arm | disarm
      | clearFault | forceOff | writeRecipe | writeSteps | copyBank | switchBank | injectItem | verdict | cancelItem
      | scheduleFire | cancelTag => cases hk
  case tick fb =>
    obtain rfl : s.tick fb = t := Host.Outcome.next.inj h
    exact .fence (s.tick_fenceChange fb)
  all_goals cases h
  case quadTransition enc ph => exact .fence (s.quadTransition_fenceChange enc ph)
  case scheduleReleasePass ax => exact .of_outside (s.passEvent_outside ax)
  case detectorEdge n level => exact .of_outside (s.detectorEdge_outside n level)
  case qualificationComplete n => exact .of_outside (s.qualificationComplete_outside n)
  case lockoutEnd n => exact .of_outside (s.lockoutEnd_outside n)
  case pulseEnd n => exact .of_outside (s.pulseEnd_outside n)
  case maxOnExpiry n => exact .of_outside (s.maxOnExpiry_outside n)
  case recoveryEnd n => exact .of_outside (s.recoveryEnd_outside n)
  case monitorSample n => exact .of_outside (s.monitorSample_outside n)
  case fenceNotice => exact .fence s.fenceNotice_fenceChange
  case fenceTimeout => exact .fence s.fenceTimeout_fenceChange
  case parserTakeHeader => exact s.takeHeader_ringChange
  case startParser => exact s.command_ringChange .startParser
  case stopParser => exact s.command_ringChange .stopParser
  case ringReset => exact s.command_ringChange .ringReset
  case quiesce => exact s.command_ringChange .quiesce
  case resume => exact s.command_ringChange .resume
  case engineReset => exact s.command_ringChange .engineReset
  case ringData w => exact s.ringData_ringChange w
  case ringPublish w => exact .published (.refl _)
  case ringWithdraw w => exact .withdrawn (.refl _)
  case resync w => exact s.resync_ringChange w
  case irqStatusWrite w => exact .same (s.irqStatusWrite_sameRing w)
  case reportWatermarkWrite w => exact .same (s.watermarkWrite_sameRing w)
  case ringSpaceLevelWrite w => exact .same (s.spaceLevelWrite_sameRing w)
  case posSelectWrite w => exact .same (s.posSelectWrite_sameRing w)
  case lineSelectWrite w => exact .same (s.lineSelectWrite_sameRing w)
  case registerWriteIgnored o w => exact s.busWrite_ringChange o w
  case reportPop w | irqEnableWrite w | posLowRead => exact .same ⟨rfl, rfl⟩

/-- Every command but HARDWARE_RESET makes one of these changes. -/
theorem exec_ringChange {c : Instr} (h : exec c s = .next t) (hc : ∀ p q di fb, c ≠ .hardwareReset p q di fb) :
    s.RingChange t := by
  cases hk : c.packetKind with
  | some k => exact exec_packetRow_ringChange (Instr.mem_rows_of_packetKind hk) h
  | none => exact exec_ringChange_of_no_packet h hc hk

/-! ### The published words stay (R163) -/

/-- No change writes a word but at fill (R164). -/
theorem State.RingChange.ringWord (h : s.RingChange t) {i : RingIndex} (hi : i ≠ s.ring.fill) :
    t.ringWord i = s.ringWord i := by
  cases h with
  | fence hchange =>
    cases hchange with
    | same hst | ended _ _ hst | moved _ _ _ hst => exact hst.ringWord i
  | consumed _ _ hst | held _ _ hst | halted _ _ hst | kept _ _ hst | started hst | stopped hst | cleared hst
  | published hst | withdrawn hst => exact hst.ringWord i
  | resynced w hw hst =>
    rw [hst.ringWord i, State.resync_accepted hw]; rfl
  | stored w _ hst => rw [hst.ringWord i, s.ringWord_ringData w, if_neg fun h => hi h.2]

/-- Settles O18: the regions are all the words but one, and none of the published words stands at fill. -/
theorem publishedWordsStay : Obligations.PublishedWordsStay :=
  ⟨fun _ hpath => hpath.regions_sum, fun _ _ _ hpath h hc _ hk =>
    (exec_ringChange h hc).ringWord (hpath.published_ne_fill hk)⟩

/-! ### The rest of the parser (R163, R170, R171, R175) -/

theorem State.fenceSound_iff (s : State) :
    s.FenceSound ↔ ∀ r, s.parser.state = .fenced r → 1 + fenceLength ≤ s.ring.published := by
  unfold State.FenceSound
  cases s.parser.state <;> simp

theorem State.keptSound_iff (s : State) :
    s.KeptSound ↔ ∀ w, s.parser.state = .running (some w) →
      0 < s.ring.published ∧ w = s.ringWord s.ring.read ∧ headerPasses w s.ring.read = true := by
  unfold State.KeptSound
  rcases s.parser.state with _ | (_ | w) | r | _ <;> simp

/-- Soundness speaks of the ring and the parser alone. -/
theorem State.RingSound.congr (hs : s.RingSound) (h : s.SameRing t) : t.RingSound := by
  unfold State.RingSound at hs ⊢
  rw [State.fenceSound_iff, State.keptSound_iff] at hs ⊢
  unfold State.HaltSound at hs ⊢
  rwa [h.ring, h.parser, h.ringWord]

/-- A held fence is wholly published (R170). -/
theorem State.RingSound.fence_published (hs : s.RingSound) {r : FenceRecord} (hr : s.parser.state = .fenced r) :
    1 + fenceLength ≤ s.ring.published := by
  obtain ⟨-, -, hfence, -, -⟩ := hs
  exact s.fenceSound_iff.1 hfence r hr

/-- A parser that is STOPPED, or RUNNING for the next header, may rest anywhere (R170). -/
theorem State.RingSound.of_at_rest (hpath : s.ring.PathSound) (hwords : Memory.wf s.ring.words)
    (h : s.parser.state = .stopped ∨ s.parser.state = .running none) : s.RingSound := by
  have hrest : ∀ st, s.parser.state = st → st = .stopped ∨ st = .running none := fun _ hst => hst ▸ h
  exact ⟨hpath, hwords, s.fenceSound_iff.2 fun r hr => (hrest _ hr).elim nofun nofun,
    fun hhalted => (hrest _ hhalted).elim nofun nofun, s.keptSound_iff.2 fun w hw => (hrest _ hw).elim nofun nofun⟩

theorem State.RingSound.passPacket (hs : s.RingSound) {len : Nat} (h : 1 + len ≤ s.ring.published) :
    (s.passPacket len).RingSound := by
  obtain ⟨hpath, hwords, -⟩ := hs
  exact .of_at_rest (hpath.advance h) hwords (.inr rfl)

theorem State.RingSound.setParser_fenced (hs : s.RingSound) (h : 1 + fenceLength ≤ s.ring.published)
    (r : FenceRecord) : (s.setParser (.fenced r)).RingSound := by
  obtain ⟨hpath, hwords, -⟩ := hs
  exact ⟨hpath, hwords, h, nofun, trivial⟩

theorem State.FenceChange.sound (hs : s.RingSound) (h : s.FenceChange t) : t.RingSound := by
  cases h with
  | same hst => exact hs.congr hst
  | ended r hr hst => exact (hs.passPacket (hs.fence_published hr)).congr hst
  | moved r r' hr hst => exact (hs.setParser_fenced (hs.fence_published hr) r').congr hst

theorem State.RingSound.resync (hs : s.RingSound) {w : Word} (hw : s.resyncAccepted w = true) :
    (s.resync w).RingSound := by
  obtain ⟨hpath, hwords, -⟩ := hs
  obtain ⟨-, hrange, hway⟩ := (s.resyncAccepted_iff w).1 hw
  rw [RingIndex.distance_eq _ hrange] at hway
  have hmoved := hpath.advance hway
  rw [← RingIndex.eq_add_distance] at hmoved
  rw [State.resync_accepted hw]
  exact .of_at_rest hmoved hwords (.inl rfl)

/-- A word stored at fill leaves the packet at read as it was (R163, R164). -/
theorem State.RingSound.ringData (hs : s.RingSound) (hfree : s.ring.free ≠ 0) (w : Word) :
    (s.ringData w).RingSound := by
  obtain ⟨hpath, hwords, hfence, hhalt, hkept⟩ := hs
  have hhead : 0 < s.ring.published → (s.ringData w).ringWord s.ring.read = s.ringWord s.ring.read := fun h => by
    have hne : s.ring.read ≠ s.ring.fill := by simpa using hpath.published_ne_fill h
    rw [s.ringWord_ringData w, if_neg fun hat => hne hat.2]
  have hwf := State.ringData_wf hwords w
  rw [State.ringData_stored hfree] at hhead hwf ⊢
  refine ⟨hpath.fed hfree _, hwf, hfence, hhalt, (State.keptSound_iff _).2 fun v hv => ?_⟩
  obtain ⟨hpublished, hword, hpasses⟩ := s.keptSound_iff.1 hkept v hv
  exact ⟨hpublished, hword.trans (hhead hpublished).symm, hpasses⟩

/-- A publish leaves more words published than before, with the packet at read among them (R165). -/
theorem State.RingSound.ringPublish (hs : s.RingSound) : s.ringPublish.RingSound := by
  obtain ⟨hpath, hwords, hfence, hhalt, hkept⟩ := hs
  have hmore : s.ring.published ≤ s.ringPublish.ring.published := hpath
  refine ⟨Nat.le_refl _, hwords, (State.fenceSound_iff _).2 fun r hr => (s.fenceSound_iff.1 hfence r hr).trans hmore,
    hhalt, (State.keptSound_iff _).2 fun w hw => ?_⟩
  obtain ⟨hpublished, hword, hpasses⟩ := s.keptSound_iff.1 hkept w hw
  exact ⟨hpublished.trans_le hmore, hword, hpasses⟩

/-- A withdraw leaves the published words and the parser (R166). -/
theorem State.RingSound.ringWithdraw (hs : s.RingSound) : s.ringWithdraw.RingSound := by
  obtain ⟨-, hwords, hfence, hhalt, hkept⟩ := hs
  exact ⟨Nat.le_refl _, hwords, hfence, hhalt, hkept⟩

/-- Each change of the ring and the parser keeps them sound. -/
theorem State.RingChange.sound (hs : s.RingSound) (h : s.RingChange t) : t.RingSound := by
  have ⟨hpath, hwords, _⟩ := hs
  cases h with
  | fence hchange => exact hchange.sound hs
  | consumed len hcomplete hst => exact (hs.passPacket hcomplete).congr hst
  | held r hcomplete hst => exact (hs.setParser_fenced hcomplete r).congr hst
  | halted code hfailed hst =>
    have hhalted : (s.halt code).RingSound := ⟨hpath, hwords, trivial, fun _ => ⟨rfl, hfailed⟩, trivial⟩
    exact hhalted.congr hst
  | kept hpublished hpasses hst =>
    have hkept : (s.setParser (.running (some (s.ringWord s.ring.read)))).RingSound :=
      ⟨hpath, hwords, trivial, nofun, hpublished, rfl, hpasses⟩
    exact hkept.congr hst
  | started hst =>
    exact (State.RingSound.of_at_rest (s := s.setParser (.running none)) hpath hwords (.inr rfl)).congr hst
  | stopped hst =>
    exact (State.RingSound.of_at_rest (s := s.setParser .stopped) hpath hwords (.inl rfl)).congr hst
  | cleared hst =>
    exact (State.RingSound.of_at_rest (s := s.ringReset) (Nat.le_refl _) hwords (.inl rfl)).congr hst
  | resynced w hw hst => exact (hs.resync hw).congr hst
  | stored w hfree hst => exact (hs.ringData hfree w).congr hst
  | published hst => exact hs.ringPublish.congr hst
  | withdrawn hst => exact hs.ringWithdraw.congr hst

theorem exec_keeps_ringSound (c : Instr) (s t : State) (hs : s.RingSound) (h : exec c s = .next t) : t.RingSound := by
  by_cases hc : ∀ p q di fb, c ≠ .hardwareReset p q di fb
  · exact (exec_ringChange h hc).sound hs
  · simp only [not_forall, not_not] at hc
    obtain ⟨p, q, di, fb, rfl⟩ := hc
    cases h
    exact State.reset_ringSound.congr ⟨rfl, rfl⟩

/-- Settles O16: each command's change of the ring and the parser keeps both sound, and HARDWARE_RESET sets both to
their values after reset. -/
theorem stepKeepsTheRingSound : Obligations.StepKeepsTheRingSound :=
  step_keeps (fun _ _ hs => hs) exec_keeps_ringSound

end Machine
end Sys2Proof
end

section
/-!
Engine Control: the writes that the window ignores, QUIESCE and RESUME (R189, R197, R199, R201).
-/
namespace Sys2Proof.Machine

variable {s : State}

/-! ### Ignored writes (R189, R197) -/

/-- A resync to no ring index is ignored (R168). -/
theorem State.resync_out_of_range {w : Word} (h : 1024 ≤ w.toNat) : s.resync w = s :=
  State.resync_ignored fun haccepted => by
    obtain ⟨-, hrange, -⟩ := (s.resyncAccepted_iff w).1 haccepted
    omega

/-- The window's decoding leaves the part alone on every write that is ignored in every state. -/
theorem State.busWrite_ignored {offset : BitVec 5} {w : Word} (h : writeIgnored offset w = true) :
    s.busWrite offset w = s := by
  unfold State.busWrite
  split <;> rename_i ho
  case h_1 => rw [commandOf_ignored ho h]
  case h_2 | h_3 | h_4 | h_8 | h_10 => simp [writeIgnored, readOnlyOffset, ho] at h
  case h_5 =>
    have hrange : 1024 ≤ w.toNat := by simpa [writeIgnored, readOnlyOffset, ho] using h
    exact State.resync_out_of_range hrange
  case h_6 =>
    have hrange : 1024 ≤ w.toNat := by simpa [writeIgnored, readOnlyOffset, ho] using h
    exact State.spaceLevelWrite_none (spaceLevelOf_out_of_range hrange)
  case h_7 =>
    have hclear : w.getLsbD 6 = false := by simpa [writeIgnored, readOnlyOffset, ho] using h
    exact if_neg (Bool.eq_false_iff.1 hclear)
  case h_9 =>
    have hrange : w.toNat = 0 ∨ 64 < w.toNat := by simpa [writeIgnored, readOnlyOffset, ho] using h
    exact State.watermarkWrite_none (watermarkOf_out_of_range hrange)
  case h_11 =>
    have hrange : 3 ≤ w.toNat := by simpa [writeIgnored, readOnlyOffset, ho] using h
    exact State.posSelectWrite_none (decodeAxis_eq_none hrange)
  case h_12 =>
    have hrange : 16 ≤ w.toNat := by simpa [writeIgnored, readOnlyOffset, ho] using h
    exact State.lineSelectWrite_none (decodeFin_eq_none hrange)
  case h_13 => rfl

/-- Settles O37: a well-formed ignored write is one that the window's decoding leaves without effect. -/
theorem ignoredWritesChangeNothing : Obligations.IgnoredWritesChangeNothing := fun _ _ _ hwf =>
  congrArg Host.Outcome.next (State.busWrite_ignored hwf)

/-! ### QUIESCE (R199) -/

theorem State.quiesce_empty (hrun : s.engine = .run) (he : Claims.PartEmpty s) : s.quiesce = s.enterQuiesced := by
  unfold State.quiesce
  rw [hrun]
  exact if_pos (s.isEmpty_iff.2 he)

theorem State.quiesce_inFlight (hrun : s.engine = .run) (he : ¬ Claims.PartEmpty s) :
    s.quiesce = { s with engine := .quiescing } := by
  unfold State.quiesce
  rw [hrun]
  exact if_neg fun h => he (s.isEmpty_iff.1 h)

theorem State.quiesce_ignored (h : s.engine ≠ .run) : s.quiesce = s := by
  unfold State.quiesce
  split
  exacts [absurd ‹_› h, rfl, rfl]

/-- Settles O38: QUIESCE by the engine state and by the emptiness of the part, and RESUME in every state. -/
theorem quiesceAndResume : Obligations.QuiesceAndResume := fun _ =>
  ⟨fun hrun he => congrArg Host.Outcome.next (State.quiesce_empty hrun he),
    fun hrun he => congrArg Host.Outcome.next (State.quiesce_inFlight hrun he),
    fun h => congrArg Host.Outcome.next (State.quiesce_ignored h), rfl, rfl⟩

end Sys2Proof.Machine
end

section
/-!
What an event makes of a part whose engine is not in RUN: it admits nothing, and a QUIESCING engine keeps work in
flight or is QUIESCED (R198, R200).
-/
namespace Sys2Proof.Machine

/-! ### Two frames -/

/-- The slots, the lists, the free list and the engine state are as they were. -/
structure State.SameWork (s t : State) : Prop where
  items : t.items = s.items
  free : t.free = s.free
  engine : t.engine = s.engine

/-- What every event but RESUME and the resets keeps. Outside RUN no slot is taken and no entry of the free list is
used (R198); a QUIESCING engine is left with work in flight (R200). -/
structure State.WindsDown (s t : State) : Prop where
  outsideRun : s.engine ≠ .run → t.engine ≠ .run
  slots : s.engine ≠ .run → ∀ i : Fin 64, (s.slot i).Later (t.slot i)
  freeCount : s.engine ≠ .run → s.freeCount ≤ t.freeCount
  inFlight : s.EngineSound → t.EngineSound

variable {s t u : State}

theorem State.SameWork.refl (s : State) : s.SameWork s := ⟨rfl, rfl, rfl⟩

theorem State.SameWork.trans (h : s.SameWork t) (k : t.SameWork u) : s.SameWork u :=
  ⟨k.items.trans h.items, k.free.trans h.free, k.engine.trans h.engine⟩

theorem State.SameWork.partEmpty_iff (h : s.SameWork t) : Claims.PartEmpty t ↔ Claims.PartEmpty s :=
  Claims.partEmpty_congr (congrArg ItemView.slots h.items) (State.list_of_items h.items)

/-- A QUIESCING engine has work in flight, in the terms of R199. -/
theorem State.engineSound_iff (s : State) : s.EngineSound ↔ (s.engine = .quiescing → ¬ Claims.PartEmpty s) := by
  rw [← s.isEmpty_iff, Bool.not_eq_true]

theorem State.SameWork.windsDown (h : s.SameWork t) : s.WindsDown t where
  outsideRun hrun := by rwa [h.engine]
  slots _ i := by rw [State.slot_of_items h.items]; exact .refl _
  freeCount _ := by rw [State.freeCount, State.freeCount, h.free]
  inFlight hs := by
    rw [State.engineSound_iff] at hs ⊢
    rwa [h.engine, h.partEmpty_iff]

theorem State.WindsDown.refl (s : State) : s.WindsDown s := (State.SameWork.refl s).windsDown

theorem State.WindsDown.trans (h : s.WindsDown t) (k : t.WindsDown u) : s.WindsDown u where
  outsideRun hrun := k.outsideRun (h.outsideRun hrun)
  slots hrun i := (h.slots hrun i).trans (k.slots (h.outsideRun hrun) i)
  freeCount hrun := (h.freeCount hrun).trans (k.freeCount (h.outsideRun hrun))
  inFlight hs := k.inFlight (h.inFlight hs)

theorem State.WindsDown.then_same (h : s.WindsDown t) (k : t.SameWork u) : s.WindsDown u := h.trans k.windsDown

/-- An engine in RUN that stays there is not winding down. -/
theorem State.WindsDown.of_run (hs : s.engine = .run) (ht : t.engine = .run) : s.WindsDown t where
  outsideRun hrun := absurd hs hrun
  slots hrun := absurd hs hrun
  freeCount hrun := absurd hs hrun
  inFlight _ hq := by rw [ht] at hq; cases hq

/-- An event that may have emptied the part ends with a notice to Engine Control (R200): a QUIESCING engine with work
in flight before the event has work in flight after it, or the event emptied the part and the notice takes the engine
to QUIESCED. -/
theorem State.WindsDown.notice (he : t.engine = s.engine) (hslots : ∀ i : Fin 64, (s.slot i).Later (t.slot i))
    (hfree : s.freeCount ≤ t.freeCount) : s.WindsDown (t.engineNotice s) where
  outsideRun hrun := by
    rcases t.engineNotice_cases s with h | ⟨-, -, h⟩ <;> rw [h]
    · rwa [he]
    · exact EngineState.noConfusion
  slots _ i := by rw [State.slot_of_items (t.engineNotice_items s)]; exact hslots i
  freeCount _ := by
    have hsame := congrArg List.length (State.free_of_schedule (t.engineNotice_schedule s))
    exact hfree.trans_eq hsame.symm
  inFlight hs := by
    rw [State.engineSound_iff] at hs ⊢
    rw [State.engineNotice_partEmpty]
    intro hq hempty
    by_cases hquiescing : t.engine = .quiescing
    · have hbusy := hs (he ▸ hquiescing)
      rw [State.engineNotice_empties hquiescing hempty hbusy] at hq
      cases hq
    · rw [State.engineNotice_stays (.inl hquiescing)] at hq
      exact hquiescing hq

/-- An item that is handled stays in its slot, so a part with work in flight keeps it. -/
theorem State.SlotsHandled.partEmpty (h : s.SlotsHandled t) (hlist : ∀ ax, t.list ax = s.list ax)
    (he : Claims.PartEmpty t) : Claims.PartEmpty s := by
  obtain ⟨hslots, ht, h1, h2⟩ := he
  refine ⟨fun i => ?_, (hlist .t).symm.trans ht, (hlist .e1).symm.trans h1, (hlist .e2).symm.trans h2⟩
  have hi := hslots i
  generalize hb : t.slot i = b at hi
  cases hb ▸ h i with
  | same => exact hi
  | item => cases hi

/-- One event after another. -/
theorem State.foldl_windsDown {α : Type} {f : State → α → State} (h : ∀ (t : State) a, t.WindsDown (f t a))
    (l : List α) (s : State) : s.WindsDown (l.foldl f s) :=
  List.foldlRecOn _ _ (.refl s) fun t ht a _ => ht.trans (h t a)

variable (s)

/-! ### Updates -/

theorem State.offer_sameWork (r : Report) : s.SameWork (s.offer r) := ⟨rfl, rfl, rfl⟩

theorem State.halt_sameWork (code : HaltCode) : s.SameWork (s.halt code) := ⟨rfl, rfl, rfl⟩

theorem State.passPacket_sameWork (len : Nat) : s.SameWork (s.passPacket len) := ⟨rfl, rfl, rfl⟩

theorem State.setLine_sameWork (n : Fin 16) (l : Line) : s.SameWork (s.setLine n l) := ⟨rfl, rfl, rfl⟩

theorem State.setDet_sameWork (n : Fin 8) (d : Detector) : s.SameWork (s.setDet n d) := ⟨rfl, rfl, rfl⟩

theorem State.setEncAxis_sameWork (enc : Enc) (a : EncAxis) : s.SameWork (s.setEncAxis enc a) :=
  ⟨s.setEncAxis_items enc a, s.setEncAxis_free enc a, s.setEncAxis_engine enc a⟩

theorem State.setStaging_sameWork (b : Bank) : s.SameWork (s.setStaging b) :=
  ⟨s.setStaging_items b, s.setBank_free _ b, s.setBank_engine _ b⟩

/-! ### Lines (R107 to R112, R118 to R122, R134) -/

theorem State.endPulse_sameWork (n : Fin 16) (u : Pulse) (r : EndReason) : s.SameWork (s.endPulse n u r) := by
  rw [State.endPulse_eq]; exact ⟨rfl, rfl, rfl⟩

theorem State.pulseEnd_sameWork (n : Fin 16) : s.SameWork (s.pulseEnd n) := by
  unfold State.pulseEnd; repeat' split
  exacts [s.endPulse_sameWork n _ _, .refl s, .refl s]

theorem State.maxOnExpiry_sameWork (n : Fin 16) : s.SameWork (s.maxOnExpiry n) := by
  unfold State.maxOnExpiry; repeat' split
  exacts [s.endPulse_sameWork n _ _, (s.offer_sameWork _).trans (State.endPulse_sameWork _ n _ _), .refl s, .refl s]

theorem State.recoveryEnd_sameWork (n : Fin 16) : s.SameWork (s.recoveryEnd n) := by
  unfold State.recoveryEnd; dsimp only; repeat' split
  exacts [s.setLine_sameWork n _, s.setLine_sameWork n _, .refl s, .refl s]

theorem State.shutdown_sameWork (n : Fin 16) : s.SameWork (s.shutdown n) := by
  unfold State.shutdown
  simp only [State.offerFireDone_eq, State.offerSlotDrop_eq]
  split <;> exact ⟨rfl, rfl, rfl⟩

theorem State.raiseFault_sameWork (n : Fin 16) (before : Line) : s.SameWork (s.raiseFault n before) := by
  unfold State.raiseFault; dsimp only; split
  · exact (s.setLine_sameWork n _).trans (State.offer_sameWork _ _)
  · exact ((s.setLine_sameWork n _).trans (State.shutdown_sameWork _ n)).trans (State.offer_sameWork _ _)

theorem State.monitorSample_sameWork (n : Fin 16) : s.SameWork (s.monitorSample n) := by
  unfold State.monitorSample State.takeSample; dsimp only; repeat' split
  · exact s.setLine_sameWork n _
  · exact s.setLine_sameWork n _
  · exact (s.setLine_sameWork n _).trans (State.raiseFault_sameWork _ n _)
  · exact .refl s

theorem State.actOnLine_sameWork (a : LineAction) (n : Fin 16) : s.SameWork (s.actOnLine a n) := by
  rw [State.actOnLine_eq]; exact ⟨rfl, rfl, rfl⟩

theorem State.configLine_sameWork (n : Fin 16) (cfg : LineConfig) (mon : MonitorConfig) :
    s.SameWork (s.configLine n cfg mon) := by
  unfold State.configLine; dsimp only; split <;> exact ⟨rfl, rfl, rfl⟩

/-! ### Detectors and axes (R14, R15, R97, R99 to R101) -/

theorem State.lockoutEnd_sameWork (n : Fin 8) : s.SameWork (s.lockoutEnd n) := by
  unfold State.lockoutEnd; dsimp only; split <;> exact ⟨rfl, rfl, rfl⟩

theorem State.configDetector_sameWork (n : Fin 8) (cfg : DetectorConfig) : s.SameWork (s.configDetector n cfg) := by
  unfold State.configDetector; dsimp only; split <;> exact ⟨rfl, rfl, rfl⟩

theorem State.enableDetector_sameWork (n : Fin 8) : s.SameWork (s.enableDetector n) := by
  unfold State.enableDetector; dsimp only; split <;> exact ⟨rfl, rfl, rfl⟩

theorem State.disableDetector_sameWork (n : Fin 8) : s.SameWork (s.disableDetector n) := s.setDet_sameWork n _

theorem State.configAxis_sameWork (enc : Enc) (c : AxisSettings) : s.SameWork (s.configAxis enc c) := by
  unfold State.configAxis; dsimp only; repeat' split
  exacts [.refl s, s.setEncAxis_sameWork enc _, s.offer_sameWork _]

theorem State.presetAxis_sameWork (enc : Enc) (p : Pos) : s.SameWork (s.presetAxis enc p) := by
  unfold State.presetAxis; dsimp only; split
  exacts [s.offer_sameWork _, s.setEncAxis_sameWork enc _]

/-! ### The parser, the Recipe Store and the registers (R58, R83, R164 to R185) -/

theorem State.fenceNotice_sameWork : s.SameWork s.fenceNotice := by
  unfold State.fenceNotice; repeat' split
  all_goals exact ⟨rfl, rfl, rfl⟩

theorem State.fenceTimeout_sameWork : s.SameWork s.fenceTimeout := by
  unfold State.fenceTimeout; repeat' split
  all_goals exact ⟨rfl, rfl, rfl⟩

theorem State.takeFence_sameWork (f : FenceFields) (len : Nat) : s.SameWork (s.takeFence f len) := by
  unfold State.takeFence; split <;> exact ⟨rfl, rfl, rfl⟩

theorem State.takeHeader_sameWork : s.SameWork s.takeHeader := by
  unfold State.takeHeader; dsimp only; repeat' split
  all_goals exact ⟨rfl, rfl, rfl⟩

theorem State.switchBank_sameWork : s.SameWork s.switchBank := by
  unfold State.switchBank; split <;> exact ⟨rfl, rfl, rfl⟩

theorem State.ringData_sameWork (w : Word) : s.SameWork (s.ringData w) := by
  unfold State.ringData; split <;> exact ⟨rfl, rfl, rfl⟩

theorem State.resync_sameWork (w : Word) : s.SameWork (s.resync w) := by
  unfold State.resync; split <;> exact ⟨rfl, rfl, rfl⟩

theorem State.irqStatusWrite_sameWork (w : Word) : s.SameWork (s.irqStatusWrite w) := by
  unfold State.irqStatusWrite; split <;> exact ⟨rfl, rfl, rfl⟩

theorem State.watermarkWrite_sameWork (w : Word) : s.SameWork (s.watermarkWrite w) := by
  unfold State.watermarkWrite; split <;> exact ⟨rfl, rfl, rfl⟩

theorem State.spaceLevelWrite_sameWork (w : Word) : s.SameWork (s.spaceLevelWrite w) := by
  unfold State.spaceLevelWrite; split <;> exact ⟨rfl, rfl, rfl⟩

theorem State.posSelectWrite_sameWork (w : Word) : s.SameWork (s.posSelectWrite w) := by
  unfold State.posSelectWrite; split <;> exact ⟨rfl, rfl, rfl⟩

theorem State.lineSelectWrite_sameWork (w : Word) : s.SameWork (s.lineSelectWrite w) := by
  unfold State.lineSelectWrite; split <;> exact ⟨rfl, rfl, rfl⟩

/-! ### Entries released, removed and expired (R23, R24, R40, R68) -/

/-- A release frees its entry or puts it back (R32, R34). -/
theorem State.freeCount_le_release (ax : Axis) (e : Entry) : s.freeCount ≤ (s.release ax e).freeCount := by
  have hschedule := s.release_schedule ax e
  split at hschedule <;> have hfree := State.free_of_schedule hschedule
  · have hone : (s.release ax e).freeCount = s.freeCount + 1 :=
      (congrArg List.length hfree).trans (s.freeCount_freeNumber e.number)
    omega
  · exact (congrArg List.length (hfree.trans (s.insert_free ax e.again))).ge

theorem State.freeCount_le_releasePass (ax : Axis) : s.freeCount ≤ (s.releasePass ax).freeCount :=
  State.releasePass_induct (P := fun s t => s.freeCount ≤ t.freeCount) (fun _ _ => Nat.le_refl _)
    (fun s _ e rest _ _ hu => by
      have hrelease := (s.setList ax rest).freeCount_le_release ax e
      rw [State.freeCount, State.setList_free] at hrelease
      exact hrelease.trans hu) s

theorem State.freeCount_le_expire (ax : Axis) (p : Pos) : s.freeCount ≤ (s.expire ax p).freeCount := by
  rw [State.expire_frame, State.freeCount, State.freeCount, insertFree_foldl_length]
  exact Nat.le_add_right _ _

theorem State.expire_engine (ax : Axis) (p : Pos) : (s.expire ax p).engine = s.engine := by
  rw [State.expire_frame, State.setList_engine]

theorem State.passEvent_windsDown (ax : Axis) : s.WindsDown (s.passEvent ax) :=
  .notice (s.releasePass_engine ax) (s.releasePass_later ax) (s.freeCount_le_releasePass ax)

theorem State.cancelTag_windsDown (tag : Word) : s.WindsDown (s.cancelTag tag) :=
  .notice (by rw [State.removeEntries_eq]) (State.later_of_slots (s.removeEntries_slots _))
    (by rw [State.removeEntries_freeCount]; exact Nat.le_add_right _ _)

theorem State.cancelItem_windsDown (h : Handle) : s.WindsDown (s.cancelItem h) := by
  cases hx : s.findItem h with
  | none =>
    simp only [State.cancelItem, hx]
    exact (s.offer_sameWork _).windsDown
  | some x =>
    have hengine : (s.removeEntries (Entry.ofItem h)).engine = s.engine := by rw [State.removeEntries_eq]
    have hlater := s.cancelItem_later h
    have hfreed : s.freeCount ≤ (s.removeEntries (Entry.ofItem h)).freeCount := by
      rw [State.removeEntries_freeCount]; exact Nat.le_add_right _ _
    rw [State.cancelItem_eq hx] at hlater ⊢
    simp only [State.slot_of_items (State.engineNotice_items _ s)] at hlater
    exact .notice hengine hlater hfreed

variable {s} in
/-- Entries that expire before the notice (R23, R200). -/
theorem State.WindsDown.expire (h : s.SameWork t) (ax : Axis) (p : Pos) :
    s.WindsDown ((t.expire ax p).engineNotice s) := by
  refine .notice ((t.expire_engine ax p).trans h.engine) (fun i => ?_) ?_
  · have hexpired := State.ItemOp.later (.expire (s := t) ax p) i
    rwa [State.slot_of_items h.items] at hexpired
  · exact (congrArg List.length h.free).ge.trans (t.freeCount_le_expire ax p)

/-! ### Admissions and verdicts (R38, R52, R58, R95) -/

/-- An admission whose checks pass finds the engine in RUN (R52). -/
theorem State.admitItem_windsDown {q : AdmissionRequest} (hcheck : s.admissionCheck q.recipe = none) :
    s.WindsDown (s.admitItem q) := by
  obtain ⟨hrun, -, hslot, -⟩ := State.admissionCheck_eq_none hcheck
  obtain ⟨i, hi⟩ := Option.ne_none_iff_exists'.1 hslot
  rw [State.admitItem_eq hcheck hi]
  exact .of_run hrun (by rw [State.releasePass_engine, State.admittedTo_engine, hrun])

theorem State.injectItem_windsDown (r : Fin 16) (backdate tag : Word) : s.WindsDown (s.injectItem r backdate tag) := by
  unfold State.injectItem; split
  exacts [(s.offer_sameWork _).windsDown, s.admitItem_windsDown ‹_›]

theorem State.detect_windsDown (n : Fin 8) (c : Capture) : s.WindsDown (s.detect n c) := by
  have hevent : s.WindsDown (s.detectionEvent n (s.det n).cfg.recipe c) := by
    unfold State.detectionEvent; dsimp only; split
    exacts [(s.offer_sameWork _).windsDown, s.admitItem_windsDown ‹_›]
  exact hevent.then_same (State.setDet_sameWork _ n _)

theorem State.qualificationComplete_windsDown (n : Fin 8) : s.WindsDown (s.qualificationComplete n) := by
  unfold State.qualificationComplete; dsimp only; repeat' split
  exacts [s.detect_windsDown n _, .refl s, .refl s]

theorem State.startQualifying_windsDown (n : Fin 8) : s.WindsDown (s.startQualifying n) := by
  have hset := (s.setDet_sameWork n { s.det n with state := .qualifying s.capture, count := 0 }).windsDown
  unfold State.startQualifying; dsimp only; split
  exacts [hset.trans (State.detect_windsDown _ n _), hset]

theorem State.detectorEdge_windsDown (n : Fin 8) (level : Bool) : s.WindsDown (s.detectorEdge n level) := by
  have hlevel := (s.setDet_sameWork n { s.det n with lastLevel := level }).windsDown
  unfold State.detectorEdge; dsimp only; repeat' split
  exacts [.refl s, hlevel, hlevel, hlevel.trans (State.startQualifying_windsDown _ n), hlevel, hlevel,
    hlevel.then_same (State.setDet_sameWork _ n _)]

/-- A SCHEDULE_FIRE that is not refused finds the engine in RUN (R38). -/
theorem State.scheduleFire_windsDown (f : FireFields) : s.WindsDown (s.scheduleFire f) := by
  unfold State.scheduleFire; split
  · exact (s.offer_sameWork _).windsDown
  · rename_i hcheck
    rw [State.fireCheck_eq] at hcheck
    obtain ⟨hrun, hfree⟩ := Claims.fireRefusal_eq_none hcheck
    obtain ⟨n, rest, hfree⟩ := List.exists_cons_of_ne_nil hfree
    rw [State.fireNow_eq hfree]
    exact .of_run hrun (by rw [State.releasePass_engine, State.fired_engine, hrun])

theorem State.verdict_windsDown (h : Handle) (v : Verdict) (tag : Word) : s.WindsDown (s.verdict h v tag) := by
  have hhandled := s.verdict_handled h v tag
  have hschedule := s.verdict_schedule h v tag
  have hengine : (s.verdict h v tag).engine = s.engine := by
    unfold State.verdict; repeat' split
    all_goals rfl
  constructor
  case outsideRun => intro hrun; rwa [hengine]
  case slots => exact fun _ => hhandled.later
  case freeCount => exact fun _ => (congrArg List.length (State.free_of_schedule hschedule)).ge
  case inFlight =>
    intro hs
    rw [State.engineSound_iff] at hs ⊢
    rw [hengine]
    exact fun hq he => hs hq (hhandled.partEmpty (State.list_of_schedule hschedule) he)

/-! ### The events owed and the axes (R3, R4, R6 to R12) -/

theorem State.settleAxis_windsDown (enc : Enc) : s.WindsDown (s.settleAxis enc) := by
  have hlock : ∀ (t : State) n, t.WindsDown (t.lockoutEndOn enc.axis n) := fun t n => by
    unfold State.lockoutEndOn; split
    exacts [(t.lockoutEnd_sameWork n).windsDown, .refl t]
  have hpulse : ∀ (t : State) n, t.WindsDown (t.pulseEndOn enc n) := fun t n => by
    unfold State.pulseEndOn; repeat' split
    exacts [(t.pulseEnd_sameWork n).windsDown, .refl t, .refl t]
  have hends := ((s.passEvent_windsDown enc.axis).trans (State.foldl_windsDown hlock allDetectors _)).trans
    (State.foldl_windsDown hpulse allLines _)
  unfold State.settleAxis; dsimp only; split
  · exact hends.then_same (State.fenceNotice_sameWork _)
  · exact hends

theorem State.settleAll_windsDown : s.WindsDown s.settleAll := by
  unfold State.settleAll
  extract_lets s1 s2 s3 s4 s5 s6 s7
  have hpasses : s.WindsDown s1 :=
    ((s.passEvent_windsDown .t).trans (State.passEvent_windsDown _ .e1)).trans (State.passEvent_windsDown _ .e2)
  have hdets : s1.WindsDown s3 := (State.foldl_windsDown State.qualificationComplete_windsDown allDetectors s1).trans
    (State.foldl_windsDown (fun t n => (t.lockoutEnd_sameWork n).windsDown) allDetectors s2)
  have hpulses : s3.WindsDown s5 :=
    (State.foldl_windsDown (fun t n => (t.pulseEnd_sameWork n).windsDown) allLines s3).trans
      (State.foldl_windsDown (fun t n => (t.maxOnExpiry_sameWork n).windsDown) allLines s4)
  have hlines : s5.WindsDown s7 :=
    (State.foldl_windsDown (fun t n => (t.recoveryEnd_sameWork n).windsDown) allLines s5).trans
      (State.foldl_windsDown (fun t n => (t.monitorSample_sameWork n).windsDown) allLines s6)
  exact (((hpasses.trans hdets).trans hpulses).trans hlines).then_same
    (s7.fenceNotice_sameWork.trans (State.fenceTimeout_sameWork _))

theorem State.tick_windsDown (fb : Word) : s.WindsDown (s.tick fb) := by
  refine s.settleAll_windsDown.then_same ?_
  unfold State.tick
  generalize s.settleAll = u
  exact ⟨rfl, rfl, rfl⟩

theorem State.advance_windsDown (enc : Enc) : s.WindsDown (s.advance enc) :=
  (s.settleAxis_windsDown enc).then_same (State.setEncAxis_sameWork _ enc _)

theorem State.backwardChange_windsDown (enc : Enc) : s.WindsDown (s.backwardChange enc) := by
  rw [State.backwardChange_eq rfl]
  have hends : ∀ (t : State) (p : Pos), t.SameWork (t.keepEndsAhead enc p) := fun _ _ => ⟨rfl, rfl, rfl⟩
  exact (s.settleAxis_windsDown enc).trans
    (.expire ((State.setEncAxis_sameWork _ enc _).trans (hends _ _)) enc.axis _)

theorem State.quadTransition_windsDown (enc : Enc) (ph : Phases) : s.WindsDown (s.quadTransition enc ph) := by
  have hset := fun a => (s.setEncAxis_sameWork enc a).windsDown
  rcases State.quadTransition_cases (s := s) (enc := enc) rfl ph with ⟨-, h⟩ | ⟨-, h⟩ | ⟨-, h⟩ <;> rw [h]
  · exact (hset _).then_same ⟨rfl, rfl, rfl⟩
  · exact (hset _).trans (State.advance_windsDown _ enc)
  · exact (hset _).trans (State.backwardChange_windsDown _ enc)

/-! ### Packets (R173) -/

theorem State.forMasked_windsDown {k : Nat} {mask : BitVec k} {act : State → Fin k → State}
    (h : ∀ (t : State) n, t.SameWork (act t n)) (l : List (Fin k)) :
    s.WindsDown (l.foldl (fun s n => if mask.getLsbD n.val then act s n else s) s) :=
  State.foldl_windsDown (fun t n => by
    split
    exacts [(h t n).windsDown, .refl t]) l s

/-- No owner admits anything outside RUN, and each owner that removes entries ends with the notice. -/
theorem State.carryOut_windsDown (p : Packet) : s.WindsDown (s.carryOut p) := by
  cases p with
  | pad | fence => exact .refl s
  | mark tag => exact (s.offer_sameWork _).windsDown
  | configAxis enc c => exact (s.configAxis_sameWork enc c).windsDown
  | presetAxis enc q => exact (s.presetAxis_sameWork enc q).windsDown
  | configDetector n c => exact (s.configDetector_sameWork n c).windsDown
  | detectorControl mask a =>
    cases a with
    | enable => exact s.forMasked_windsDown State.enableDetector_sameWork allDetectors
    | disable => exact s.forMasked_windsDown State.disableDetector_sameWork allDetectors
  | configLine n c m => exact (s.configLine_sameWork n c m).windsDown
  | lineControl mask a => exact s.forMasked_windsDown (State.actOnLine_sameWork · a) allLines
  | writeRecipe | writeSteps | copyBank => exact (s.setStaging_sameWork _).windsDown
  | switchBank => exact s.switchBank_sameWork.windsDown
  | injectItem r backdate tag => exact s.injectItem_windsDown r backdate tag
  | verdict h v tag => exact s.verdict_windsDown h v tag
  | cancelItem h => exact s.cancelItem_windsDown h
  | scheduleFire f => exact s.scheduleFire_windsDown f
  | cancelTag tag => exact s.cancelTag_windsDown tag

theorem State.takePacket_windsDown (len : Nat) (p : Packet) : s.WindsDown (s.takePacket len p) := by
  cases p with
  | fence f => exact (s.takeFence_sameWork f len).windsDown
  | _ => exact (s.carryOut_windsDown _).then_same (State.passPacket_sameWork _ len)

variable {s}

theorem exec_packetRow_windsDown {c : Instr} {k : PacketKind} (hc : c ∈ k.rows) (h : exec c s = .next t) :
    s.WindsDown t := by
  rw [exec_packetRow hc, Host.Outcome.next.injEq] at h
  subst h
  refine State.onPacket_induct (P := s.WindsDown) (.refl s) (s.halt_sameWork _).windsDown fun len p _ => ?_
  split
  exacts [s.takePacket_windsDown len p, .refl s]

/-! ### All that a command makes of the engine and of the work in flight -/

/-- What a command other than HARDWARE_RESET makes of the engine state and of the work in flight. -/
inductive State.EngineChange (s : State) : State → Prop
  | windsDown {t : State} (h : s.WindsDown t) : EngineChange s t
  /-- RESUME (R201). -/
  | resumed : EngineChange s s.resume
  /-- ENGINE_RESET (R203). -/
  | reset : EngineChange s s.engineReset

theorem State.SameWork.engineChange (h : s.SameWork t) : s.EngineChange t := .windsDown h.windsDown

/-- QUIESCE leaves the engine QUIESCING on a part with work in flight alone (R199). -/
theorem State.quiesce_windsDown (s : State) : s.WindsDown s.quiesce := by
  by_cases hrun : s.engine = .run
  · by_cases he : Claims.PartEmpty s
    · rw [State.quiesce_empty hrun he]
      exact ⟨(absurd hrun ·), (absurd hrun ·), (absurd hrun ·), fun _ => nofun⟩
    · rw [State.quiesce_inFlight hrun he]
      exact ⟨(absurd hrun ·), (absurd hrun ·), (absurd hrun ·), fun _ => (State.engineSound_iff _).2 fun _ => he⟩
  · rw [State.quiesce_ignored hrun]; exact .refl s

theorem State.command_engineChange (s : State) (c : Command) : s.EngineChange (s.command c) := by
  cases c with
  | startParser =>
    show s.EngineChange s.startParser
    unfold State.startParser; split <;> exact State.SameWork.engineChange ⟨rfl, rfl, rfl⟩
  | stopParser =>
    show s.EngineChange s.stopParser
    unfold State.stopParser; split <;> exact State.SameWork.engineChange ⟨rfl, rfl, rfl⟩
  | ringReset => exact State.SameWork.engineChange ⟨rfl, rfl, rfl⟩
  | quiesce => exact .windsDown s.quiesce_windsDown
  | resume => exact .resumed
  | engineReset => exact .reset

theorem State.busWrite_engineChange (s : State) (offset : BitVec 5) (w : Word) :
    s.EngineChange (s.busWrite offset w) := by
  unfold State.busWrite; split
  case h_1 =>
    split
    · exact s.command_engineChange _
    · exact (State.SameWork.refl s).engineChange
  case h_2 => exact (s.ringData_sameWork w).engineChange
  case h_5 => exact (s.resync_sameWork w).engineChange
  case h_6 => exact (s.spaceLevelWrite_sameWork w).engineChange
  case h_7 => exact (s.irqStatusWrite_sameWork w).engineChange
  case h_9 => exact (s.watermarkWrite_sameWork w).engineChange
  case h_11 => exact (s.posSelectWrite_sameWork w).engineChange
  case h_12 => exact (s.lineSelectWrite_sameWork w).engineChange
  all_goals exact State.SameWork.engineChange ⟨rfl, rfl, rfl⟩

theorem exec_engineChange_of_no_packet {c : Instr} (h : exec c s = .next t)
    (hc : ∀ p q di fb, c ≠ .hardwareReset p q di fb) (hk : c.packetKind = none) : s.EngineChange t := by
  cases c
  case hardwareReset p q di fb => exact absurd rfl (hc p q di fb)
  case pad | mark | fence | configAxis | presetAxis | configDetector | enable | disable | configLine | arm | disarm
      | clearFault | forceOff | writeRecipe | writeSteps | copyBank | switchBank | injectItem | verdict | cancelItem
      | scheduleFire | cancelTag => cases hk
  case tick fb =>
    obtain rfl : s.tick fb = t := Host.Outcome.next.inj h
    exact .windsDown (s.tick_windsDown fb)
  all_goals cases h
  case startParser => exact s.command_engineChange .startParser
  case stopParser => exact s.command_engineChange .stopParser
  case ringReset => exact s.command_engineChange .ringReset
  case quiesce => exact s.command_engineChange .quiesce
  case resume => exact .resumed
  case engineReset => exact .reset
  case registerWriteIgnored o w => exact s.busWrite_engineChange o w
  case quadTransition enc ph => exact .windsDown (s.quadTransition_windsDown enc ph)
  case scheduleReleasePass ax => exact .windsDown (s.passEvent_windsDown ax)
  case detectorEdge n level => exact .windsDown (s.detectorEdge_windsDown n level)
  case qualificationComplete n => exact .windsDown (s.qualificationComplete_windsDown n)
  all_goals refine State.SameWork.engineChange ?_
  case lockoutEnd n => exact s.lockoutEnd_sameWork n
  case pulseEnd n => exact s.pulseEnd_sameWork n
  case maxOnExpiry n => exact s.maxOnExpiry_sameWork n
  case recoveryEnd n => exact s.recoveryEnd_sameWork n
  case monitorSample n => exact s.monitorSample_sameWork n
  case fenceNotice => exact s.fenceNotice_sameWork
  case fenceTimeout => exact s.fenceTimeout_sameWork
  case parserTakeHeader => exact s.takeHeader_sameWork
  case ringData w => exact s.ringData_sameWork w
  case resync w => exact s.resync_sameWork w
  case irqStatusWrite w => exact s.irqStatusWrite_sameWork w
  case reportWatermarkWrite w => exact s.watermarkWrite_sameWork w
  case ringSpaceLevelWrite w => exact s.spaceLevelWrite_sameWork w
  case posSelectWrite w => exact s.posSelectWrite_sameWork w
  case lineSelectWrite w => exact s.lineSelectWrite_sameWork w
  case ringPublish | ringWithdraw | reportPop | irqEnableWrite | posLowRead => exact ⟨rfl, rfl, rfl⟩

/-- Every command but HARDWARE_RESET makes one of these changes. -/
theorem exec_engineChange {c : Instr} (h : exec c s = .next t) (hc : ∀ p q di fb, c ≠ .hardwareReset p q di fb) :
    s.EngineChange t := by
  cases hk : c.packetKind with
  | some k => exact .windsDown (exec_packetRow_windsDown (Instr.mem_rows_of_packetKind hk) h)
  | none => exact exec_engineChange_of_no_packet h hc hk

/-! ### QUIESCING with work in flight (R199, R200) -/

theorem State.EngineChange.sound (h : s.EngineChange t) (hs : s.EngineSound) : t.EngineSound := by
  cases h with
  | windsDown h => exact h.inFlight hs
  | resumed | reset => exact nofun

theorem exec_keeps_engineSound (c : Instr) (s t : State) (hs : s.EngineSound) (h : exec c s = .next t) :
    t.EngineSound := by
  by_cases hc : ∀ p q di fb, c ≠ .hardwareReset p q di fb
  · exact (exec_engineChange h hc).sound hs
  · simp only [not_forall, not_not] at hc
    obtain ⟨p, q, di, fb, rfl⟩ := hc
    cases h
    exact nofun

/-- Settles O17: each event that may empty the part ends with the notice that takes a QUIESCING engine to QUIESCED. -/
theorem stepKeepsQuiescingNonEmpty : Obligations.StepKeepsQuiescingNonEmpty :=
  step_keeps (fun _ _ hs => hs) exec_keeps_engineSound

/-! ### Nothing is admitted outside RUN (R198) -/

/-- A slot that was FREE holds no item later on. -/
theorem Slot.Later.eq_of_free {a b : Slot} (h : a.Later b) (ha : a.item = none) : b = a := by
  have hb : b.item = none := Option.eq_none_iff_forall_ne_some.2 fun y hy => by
    obtain ⟨x, hx, -⟩ := h.item y hy
    rw [ha] at hx
    cases hx
  exact congrArg₂ Slot.mk h.gen (hb.trans ha.symm)

/-- Settles O23: RESUME leaves the slots and the free list, ENGINE_RESET leaves FREE slots and frees all entries, and
every other command admits only in RUN. -/
theorem nothingIsAdmittedOutsideRun : Obligations.NothingIsAdmittedOutsideRun := by
  intro c s t h hrun hpool hc
  cases exec_engineChange h hc with
  | windsDown h => exact ⟨fun i hi => (h.slots hrun i).eq_of_free hi, h.freeCount hrun⟩
  | resumed => exact ⟨fun _ _ => rfl, le_rfl⟩
  | reset =>
    refine ⟨fun i hi => ?_, ?_⟩
    · rw [State.slot_engineReset, ← hi]
    · have hall : s.engineReset.freeCount = 256 := by rw [State.freeCount, State.free_engineReset, List.length_range]
      rw [hall]
      exact State.PoolSound.freeCount_le hpool

end Sys2Proof.Machine
end

section
/-!
Packets and their words, both ways, and the header checks (chapter 11): which headers pass, and what a header that
fails a check does to the part (R171, R175, R206, R207).
-/
namespace Sys2Proof

open Sys2Proof.Machine

/-! ### The two codes of a header (R206) -/

theorem decodeKind_eq_some {n : Nat} {k : PacketKind} : decodeKind n = some k ↔ k.code = n := by
  refine ⟨fun h => ?_, fun h => h ▸ decodeKind_code k⟩
  unfold decodeKind at h; split at h <;> cases h <;> rfl

/-- The codes that name no kind are those of the manual's first header check. -/
theorem decodeKind_eq_none {n : Nat} : decodeKind n = none ↔ n = 0 ∨ 19 ≤ n := by
  unfold decodeKind
  split
  case h_19 =>
    refine iff_of_true rfl ?_
    simp only [imp_false] at *
    omega
  all_goals exact iff_of_false nofun (by decide)

/-- The lengths that a kind allows are those of the manual's table, among the lengths that a byte can say. -/
theorem lengthAllowed_iff {k : PacketKind} {n : Nat} (hn : n < 256) :
    lengthAllowed k n = true ↔ n ∈ Claims.allowedLengths k.code := by
  cases k with
  | pad => exact iff_of_true rfl (List.mem_range.2 hn)
  | writeSteps =>
    simp only [lengthAllowed, PacketKind.code, Claims.allowedLengths, Bool.and_eq_true, decide_eq_true_eq, beq_iff_eq,
      List.mem_cons, List.not_mem_nil, or_false]
    omega
  | _ => exact beq_iff_eq.trans List.mem_singleton.symm

/-! ### The header checks (R171, R206) -/

section Header

variable {w : Word} {i : RingIndex}

theorem headerOf_eq_none (h : w.toNat / 256 = 0 ∨ 19 ≤ w.toNat / 256) : headerOf w = none := by
  rw [headerOf, hiByte_toNat, decodeKind_eq_none.2 h]
  rfl

theorem decodeHeader_of_headerOf_none (h : headerOf w = none) : decodeHeader w i = .error .unknownKind := by
  simp only [headerOf, Option.map_eq_none_iff] at h
  simp only [decodeHeader, h]

/-- A header that names a kind is left with the checks of its length and of the ring's end. -/
theorem decodeHeader_of_headerOf {k : PacketKind} {n : Nat} (h : headerOf w = some (k, n)) :
    decodeHeader w i =
      if lengthAllowed k n then if i.toNat + 1 + n ≤ 1024 then .ok (k, n) else .error .straddle
      else .error .badLength := by
  simp only [headerOf, Option.map_eq_some_iff, Prod.mk.injEq] at h
  obtain ⟨_, hkind, rfl, rfl⟩ := h
  simp only [decodeHeader, hkind]
  rfl

/-- The decoder's header checks are the manual's: a header that it accepts passes all three, and one that it refuses
fails first the check whose halt code it answers. -/
theorem decodeHeader_headerCheck (w : Word) (i : RingIndex) :
    (∃ x, decodeHeader w i = .ok x ∧ Claims.headerCheck (w.toNat / 256) (w.toNat % 256) i.toNat = .none) ∨
    ∃ code, decodeHeader w i = .error code ∧
      Claims.headerCheck (w.toNat / 256) (w.toNat % 256) i.toNat = code := by
  unfold Claims.headerCheck
  by_cases hunknown : w.toNat / 256 = 0 ∨ 19 ≤ w.toNat / 256
  · exact .inr ⟨_, decodeHeader_of_headerOf_none (headerOf_eq_none hunknown), if_pos hunknown⟩
  obtain ⟨k, hk⟩ := Option.ne_none_iff_exists'.1 (mt decodeKind_eq_none.1 hunknown)
  have hcode : w.toNat / 256 = k.code := (decodeKind_eq_some.1 hk).symm
  have hlength := lengthAllowed_iff (k := k) (Nat.mod_lt w.toNat (by decide : 256 > 0))
  rw [if_neg hunknown, decodeHeader_of_headerOf (headerOf_of_code hcode), hcode]
  by_cases hallowed : w.toNat % 256 ∈ Claims.allowedLengths k.code
  · rw [if_pos (hlength.2 hallowed), if_neg (not_not_intro hallowed)]
    by_cases hfits : i.toNat + 1 + w.toNat % 256 ≤ 1024
    · exact .inl ⟨_, if_pos hfits, if_neg (Nat.not_lt.2 hfits)⟩
    · exact .inr ⟨_, if_neg hfits, if_pos (Nat.not_le.1 hfits)⟩
  · exact .inr ⟨_, if_neg (mt hlength.1 hallowed), if_pos hallowed⟩

end Header

/-- Settles O25: the kept header is the one that passes, and a halt is that of the first check that fails. -/
theorem parserChecksHeaders : Obligations.ParserChecksHeaders := by
  intro s w hstate hpublished hw
  refine congrArg Host.Outcome.next ?_
  rcases decodeHeader_headerCheck w s.ring.read with ⟨x, hok, hcheck⟩ | ⟨code, herror, hcheck⟩
  · have hkept : s.takeHeader = s.setParser (.running (some w)) := by
      simp only [State.takeHeader, hstate, hpublished, if_true, hw, hok]
    rw [hkept, hcheck]
    rfl
  · have hhalt : s.takeHeader = s.halt code := by
      simp only [State.takeHeader, hstate, hpublished, if_true, hw, herror]
    rw [hhalt, hcheck]
    cases code with
    | none => exact absurd rfl (decodeHeader_error_ne_none herror)
    | unknownKind | badLength | straddle | badField => rfl

/-! ### From a packet to its words (R206, R207) -/

/-- A well-formed packet has a length that its kind allows (R169). -/
theorem Packet.lengthAllowed_of_wf {p : Packet} (h : p.wf = true) : lengthAllowed p.kind p.body.length = true := by
  cases p with
  | writeSteps first steps =>
    simp only [Packet.wf, Bool.and_eq_true, decide_eq_true_eq] at h
    obtain ⟨⟨⟨hmin, hmax⟩, -⟩, -⟩ := h
    simp only [lengthAllowed, Packet.kind, Packet.body, List.length_cons, Step.words_flatten_length, Bool.and_eq_true,
      decide_eq_true_eq, beq_iff_eq]
    omega
  | _ => rfl

/-- Settles O4: the header names a kind and a length that it allows, and the body reads back. -/
theorem packetsDecodeFromTheirWords : Obligations.PacketsDecodeFromTheirWords := by
  refine fun p i hwf => ⟨fun hfits => ?_, decodeBody_of_wf hwf⟩
  rw [decodeHeader_of_headerOf (headerOf_header hwf), if_pos (Packet.lengthAllowed_of_wf hwf), if_pos hfits]

/-! ### From words to the packet (R207) -/

/-- A body that is read keeps its length, that of a PAD too, whose words are not read. -/
theorem body_length_of_decodeBody {k : PacketKind} {ws : List Word} {p : Packet} (h : decodeBody k ws = some p) :
    p.body.length = ws.length := by
  by_cases hpad : k = .pad
  · subst hpad
    unfold decodeBody at h
    split at h
    case h_1 q hq =>
      cases hq
      split at h <;> cases h
      exact List.length_replicate
    case h_2 => cases h
  · exact congrArg List.length ((body_of_decodeBody h).2 hpad)

/-- Settles O5: each field is read from bits that the packet's own words put back. -/
theorem acceptedBodiesAreThoseOfPackets : Obligations.AcceptedBodiesAreThoseOfPackets := by
  intro k ws p h
  obtain ⟨hkind, hbody⟩ := body_of_decodeBody h
  exact ⟨decodeBody_wf h, hkind, body_length_of_decodeBody h, hbody⟩

/-! ### Words of the manual (11.3, 12.3) -/

/-- Settles O3: each word evaluated by the decoder. -/
theorem wordsOfTheManualDecode : Obligations.WordsOfTheManualDecode :=
  ⟨rfl, rfl, rfl, rfl, rfl, rfl, rfl, rfl, rfl, rfl, rfl, rfl, rfl, rfl, rfl⟩

end Sys2Proof
end

section
/-!
The queue of commands, the model's own field (log 3): `step` takes commands from its front, and no command's meaning
stops the part or touches it.
-/
namespace Sys2Proof.Machine

/-- Settles O1: the two equations of `step`. -/
theorem stepRunsTheFrontCommand : Obligations.StepRunsTheFrontCommand :=
  ⟨fun _ _ _ => rfl, fun s h => by rw [step, h]⟩

variable (s : State)

/-! ### The clock and the axes (R3, R6, R14, R15) -/

theorem State.tick_pending (fb : Word) : (s.tick fb).pending = s.pending := by
  rw [← s.settleAll_fixed.pending]
  unfold State.tick
  generalize s.settleAll = u
  rfl

theorem State.advance_pending (enc : Enc) : (s.advance enc).pending = s.pending :=
  (State.setEncAxis_pending _ enc _).trans (s.settleAxis_fixed enc).pending

theorem State.backwardChange_pending (enc : Enc) : (s.backwardChange enc).pending = s.pending := by
  rw [State.backwardChange_eq rfl, ← (s.settleAxis_fixed enc).pending]
  generalize s.settleAxis enc = u
  refine ((State.expire_outside _ _ _).trans (State.engineNotice_outside _ _)).pending.trans ?_
  exact u.setEncAxis_pending enc _

theorem State.quadTransition_pending (enc : Enc) (ph : Phases) : (s.quadTransition enc ph).pending = s.pending := by
  rcases State.quadTransition_cases (s := s) (enc := enc) rfl ph with ⟨-, h⟩ | ⟨-, h⟩ | ⟨-, h⟩ <;> rw [h]
  · exact s.setEncAxis_pending enc _
  · exact (State.advance_pending _ enc).trans (s.setEncAxis_pending enc _)
  · exact (State.backwardChange_pending _ enc).trans (s.setEncAxis_pending enc _)

theorem State.configAxis_pending (enc : Enc) (c : AxisSettings) : (s.configAxis enc c).pending = s.pending := by
  unfold State.configAxis; dsimp only; repeat' split
  · rfl
  · exact s.setEncAxis_pending enc _
  · rfl

theorem State.presetAxis_pending (enc : Enc) (p : Pos) : (s.presetAxis enc p).pending = s.pending := by
  unfold State.presetAxis; dsimp only; split
  · rfl
  · exact s.setEncAxis_pending enc _

/-! ### Packets and the Recipe Store (R173, R75, R83) -/

theorem State.setStaging_pending (b : Bank) : (s.setStaging b).pending = s.pending := s.setBank_pending _ b

theorem State.switchBank_pending : s.switchBank.pending = s.pending := by
  unfold State.switchBank; split <;> rfl

/-- A packet whose owner leaves the queue of commands. -/
theorem State.onPacket_pending (kind : PacketKind) {take : Nat → Packet → State}
    (h : ∀ len p, (take len p).pending = s.pending) : (s.onPacket kind take).pending = s.pending :=
  State.onPacket_induct (P := fun t => t.pending = s.pending) rfl rfl fun len p _ => h len p

/-! ### The register window (R189, R197) -/

theorem State.ringData_pending (w : Word) : (s.ringData w).pending = s.pending := by
  unfold State.ringData; split <;> rfl

theorem State.irqStatusWrite_pending (w : Word) : (s.irqStatusWrite w).pending = s.pending := by
  unfold State.irqStatusWrite; split <;> rfl

theorem State.watermarkWrite_pending (w : Word) : (s.watermarkWrite w).pending = s.pending := by
  unfold State.watermarkWrite; split <;> rfl

theorem State.spaceLevelWrite_pending (w : Word) : (s.spaceLevelWrite w).pending = s.pending := by
  unfold State.spaceLevelWrite; split <;> rfl

theorem State.posSelectWrite_pending (w : Word) : (s.posSelectWrite w).pending = s.pending := by
  unfold State.posSelectWrite; split <;> rfl

theorem State.lineSelectWrite_pending (w : Word) : (s.lineSelectWrite w).pending = s.pending := by
  unfold State.lineSelectWrite; split <;> rfl

theorem State.command_pending (c : Command) : (s.command c).pending = s.pending := by
  cases c with
  | startParser => exact s.startParser_fixed.pending
  | stopParser => exact s.stopParser_fixed.pending
  | quiesce => exact s.quiesce_outside.pending
  | ringReset | resume | engineReset => rfl

theorem State.busWrite_pending (offset : BitVec 5) (w : Word) : (s.busWrite offset w).pending = s.pending := by
  unfold State.busWrite; split
  case h_1 =>
    split
    · exact s.command_pending _
    · rfl
  case h_2 => exact s.ringData_pending w
  case h_5 => exact (s.resync_fixed w).pending
  case h_6 => exact s.spaceLevelWrite_pending w
  case h_7 => exact s.irqStatusWrite_pending w
  case h_9 => exact s.watermarkWrite_pending w
  case h_11 => exact s.posSelectWrite_pending w
  case h_12 => exact s.lineSelectWrite_pending w
  all_goals rfl

/-! ### Rows -/

/-- No row's meaning is a fault or a refusal (log 16). -/
theorem exec_answers (c : Instr) : ∃ t, exec c s = .next t := by
  cases c <;> exact ⟨_, rfl⟩

variable {s} {t : State}

/-- The rows that act on the fixed blocks leave the queue of commands, HARDWARE_RESET and ENGINE_RESET too. -/
theorem exec_pending_of_actsOnFixed {c : Instr} (h : exec c s = .next t) (hi : c.actsOnFixed = true) :
    t.pending = s.pending := by
  cases c
  case tick fb =>
    obtain rfl : s.tick fb = t := Host.Outcome.next.inj h
    exact s.tick_pending fb
  all_goals cases h
  case quadTransition enc ph => exact s.quadTransition_pending enc ph
  case configAxis =>
    exact s.onPacket_pending _ fun len p => by
      split
      exacts [s.configAxis_pending _ _, rfl]
  case presetAxis =>
    exact s.onPacket_pending _ fun len p => by
      split
      exacts [s.presetAxis_pending _ _, rfl]
  case writeRecipe | writeSteps =>
    exact s.onPacket_pending _ fun len p => by
      split
      exacts [s.setStaging_pending _, rfl]
  case copyBank => exact s.onPacket_pending _ fun _ _ => s.setStaging_pending _
  case switchBank => exact s.onPacket_pending _ fun _ _ => s.switchBank_pending
  case ringData w => exact s.ringData_pending w
  case irqStatusWrite w => exact s.irqStatusWrite_pending w
  case reportWatermarkWrite w => exact s.watermarkWrite_pending w
  case ringSpaceLevelWrite w => exact s.spaceLevelWrite_pending w
  case posSelectWrite w => exact s.posSelectWrite_pending w
  case lineSelectWrite w => exact s.lineSelectWrite_pending w
  case registerWriteIgnored o w => exact s.busWrite_pending o w
  case hardwareReset | ringReset | engineReset | ringPublish | ringWithdraw | irqEnableWrite | posLowRead => rfl
  all_goals cases hi

theorem exec_pending {c : Instr} (h : exec c s = .next t) : t.pending = s.pending := by
  cases hi : c.actsOnFixed with
  | false => exact (exec_sameFixed h hi).pending
  | true => exact exec_pending_of_actsOnFixed h hi

/-- Settles O2: every row answers a next state, and what it changes is never the queue of commands. -/
theorem everyCommandAnswersNextAndKeepsTheQueue : Obligations.EveryCommandAnswersNextAndKeepsTheQueue := by
  intro c s
  obtain ⟨t, h⟩ := exec_answers s c
  exact ⟨t, h, exec_pending h⟩

end Sys2Proof.Machine
end
